-- ==== Sys2Proof/Machine/Literals.lean ====
section
/-! DEFINITION. The counts and bounds of spec/00_scope.md R5 and R6, each one definition, so that "a later audit changes one
definition only" (R5, D24). The widths SW and VW are the types `Ticks` and `Volume` of Word.lean; IR_REF and the two codes the
source fixes stand in Machine/Params.lean. -/

namespace Sys2Proof

/-- CAP, the capacity of the Sample Buffer in samples (R6). -/
abbrev cap : Nat := 256

/-- NSAMP, the samples one code consumes, and so the bits of a code (R6, R62). -/
abbrev nsamp : Nat := 32

/-- NBYTES, the bytes of a code (R6). -/
abbrev nbytes : Nat := 4

/-- The bits of a byte: "8 bits × 4 bytes" (R6). -/
abbrev byteBits : Nat := 8

/-- VMAX, the saturation bound of volume-up (R6). -/
def vmax : Nat := 255

/-- VMIN, the floor of volume-down (R6). -/
def vmin : Nat := 0

/-- NCMD, the number of Command Table entries (R6). -/
abbrev ncmd : Nat := 7

end Sys2Proof
end

