-- ==== Sys2Proof/Word.lean ====
section
/-! DEFINITION. The word types of IRCORE: the widths spec/30_encoding.md R60 and spec/10_state.md give. Every value is unsigned (R9). -/

namespace Sys2Proof

/-- 8 bits: an EV word (R61), a code byte (R62). -/
abbrev Byte := BitVec byteBits

/-- 8 bits, unsigned: VOLUME (R30). This is the one definition of VW (R6). -/
abbrev Volume := BitVec 8

/-- 16 bits, unsigned: an interval in ticks, a sample, TCNT (R26, R28). This is the one definition of SW (R6). -/
abbrev Ticks := BitVec 16

/-- 16 bits: the actuator word (format ACTW, R63), and the word the gain device returns (R112). -/
abbrev ActWord := BitVec 16

/-- One bit for each of NSAMP samples: the Decoded Code and a Command Table entry (format CODE32, R62). -/
abbrev Code := BitVec nsamp

end Sys2Proof
end

