-- ==== Sys2Proof/Config.lean ====
section
/-! DEFINITION. Config: the open parameters of spec/00_scope.md R7, which a model takes as an argument, and the free values of the model. -/

namespace Sys2Proof

/-- EDGE_POLARITY (R7): which transitions of the IR line qualify. Not observable at the event level (D28). -/
inductive EdgePolarity where
  | rising
  | falling
  | both
deriving DecidableEq, Repr

/-- The open parameters of R7. The source gives none of these values, so a configuration is an argument: it stands in State as
a field that no step writes. TCNT_RESET is no field: R7 makes it a draw at each reset (see `Config.freeDraw`). -/
structure Config where
  /-- MIN_TICKS, the low end of the valid range and (R81) inclusive. -/
  minTicks : Ticks
  /-- MAX_TICKS, the high end of the valid range (inclusive) and the timeout window. -/
  maxTicks : Ticks
  /-- VOL_DEFAULT, VOLUME after RESET. -/
  volDefault : Volume
  /-- VOL_LOUD, the loud preset. -/
  volLoud : Volume
  /-- VOL_QUIET, the quiet preset. -/
  volQuiet : Volume
  /-- CODE_VOL_DOWN, TABLE[1]. -/
  codeVolDown : Code
  /-- CODE_MUTE, TABLE[2]. -/
  codeMute : Code
  /-- CODE_LOUD, TABLE[3]. -/
  codeLoud : Code
  /-- CODE_POWER_ON, TABLE[5]. -/
  codePowerOn : Code
  /-- CODE_POWER_OFF, TABLE[6]. -/
  codePowerOff : Code
  /-- EDGE_POLARITY: no rule depends on it. -/
  edgePolarity : EdgePolarity
  /-- TICK_PERIOD, a duration in a unit the source does not name: no rule depends on it. -/
  tickPeriod : Nat
deriving DecidableEq, Repr

/-- FREE VALUE (log entry 3). The `n`-th 16-bit draw of a run: what R170 draws for TCNT (TCNT_RESET) and R112 draws for the word
the gain device returns, where State lists no value for the draw. It has no body: nothing can be proved of its value. -/
opaque Config.freeDraw : Nat → BitVec 16

/-- FREE VALUE (log entry 3). Entry `i` of the Sample Buffer after the RESET that makes the `n`-th draw: R35 "unspecified, any
value". It has no body. -/
opaque Config.freeSample : Nat → Nat → Ticks

/-- FREE VALUE (log entry 4). Which of the four standalone operations (EV OP 0 to 3, R61) comes next when no script line is
pending: the order of ENV and LOOP steps is left open (R11, D8: every interleaving is admitted). It has no body. -/
opaque Config.freeOp : Nat → BitVec 2

end Sys2Proof
end

