-- ==== Sys2Proof/Syntax.lean ====
section
/-! DEFINITION. Syntax: the operations of spec/opcode_table.json, one constructor per row, and the closed enumerations the
spec names (agents, kinds, commands, handler events). -/

namespace Sys2Proof

/-- The rows of spec/opcode_table.json: the operations of format EV (R61) and the commands of format CODE32 (R64, R67). An
operation takes its operands from fixed state (R65), so only the two rows that stand for more than one word have an argument. -/
inductive Instr where
  /-- RESET, EV OP 0x0 (R170). -/
  | reset
  /-- TICK, EV OP 0x1 (R80). -/
  | tick
  /-- EDGE, EV OP 0x2 (R82). -/
  | edge
  /-- LOOP, EV OP 0x3 (R121). -/
  | loop
  /-- LOOP_INIT, EV OP 0x8, internal (R122). -/
  | loopInit
  /-- POLL, EV OP 0x9, internal (R123). -/
  | poll
  /-- SERVICE_FRAME, EV OP 0xA, internal (R124). -/
  | serviceFrame
  /-- ARM, EV OP 0xB, internal (R86). -/
  | arm
  /-- TIMEOUT, EV OP 0xC, internal (R84). -/
  | timeout
  /-- DECODE, EV OP 0xD, internal (R90). -/
  | decode
  /-- DISPATCH, EV OP 0xE, internal (R102). -/
  | dispatch
  /-- ACTUATE, EV OP 0xF, internal (R112). -/
  | actuate
  /-- RESERVED_EV: an EV word with OP 0x4 to 0x7, or with RSV ≠ 0 (R68 (a)). -/
  | reservedEv (word : Byte)
  /-- VOL_UP, CMD 0 (R103). -/
  | volUp
  /-- VOL_DOWN, CMD 1 (R104). -/
  | volDown
  /-- MUTE, CMD 2 (R105). -/
  | mute
  /-- LOUD, CMD 3 (R106). -/
  | loud
  /-- QUIET, CMD 4 (R107). -/
  | quiet
  /-- POWER_ON, CMD 5 (R108). -/
  | powerOn
  /-- POWER_OFF, CMD 6 (R109). -/
  | powerOff
  /-- NONE, CMD 7 (R110): a code that equals no TABLE entry. Its operand is that code. -/
  | noneCmd (code : Code)
deriving DecidableEq, Repr

/-- Format CMD (R64): what LOOKUP returns. -/
inductive Cmd where
  | volUp
  | volDown
  | mute
  | loud
  | quiet
  | powerOn
  | powerOff
  /-- NONE, no match. -/
  | noneCmd
deriving DecidableEq, Repr

/-- The column "kind" of R61's table; `command` for the rows of format CODE32. -/
inductive Kind where
  | event
  | step
  | internal
  | reserved
  | command
deriving DecidableEq, Repr

/-- The agents of R11. -/
inductive Agent where
  /-- ENV, the environment: RESET, TICK, EDGE. -/
  | env
  /-- HANDLER, the capture handler: the EDGE and the TIMEOUT effect. -/
  | handler
  /-- LOOP, the control loop. -/
  | loop
deriving DecidableEq, Repr

/-- The two hardware events that run the capture handler (R146). -/
inductive HandlerEvent where
  /-- The capture trigger: an EDGE. -/
  | capture
  /-- The timeout: the TICK that carries TCNT from MAX_TICKS to MAX_TICKS + 1. -/
  | timeout
deriving DecidableEq, Repr

/-- The error conditions of R141 to R145. No register holds one (R140). -/
inductive Status where
  | noise
  | short
  | unrecognized
  | unsupported
  | overflow
deriving DecidableEq, Repr

/-- R61, column "kind". -/
def Instr.kind : Instr → Kind
  | .reset | .tick | .edge => .event
  | .loop => .step
  | .loopInit | .poll | .serviceFrame | .arm | .timeout | .decode | .dispatch | .actuate => .internal
  | .reservedEv _ => .reserved
  | .volUp | .volDown | .mute | .loud | .quiet | .powerOn | .powerOff | .noneCmd _ => .command

/-- R61, column "issued by" (none for a reserved word). The commands run inside DISPATCH, which LOOP issues (R102). -/
def Instr.issuedBy : Instr → Option Agent
  | .reset | .tick | .edge => some .env
  | .timeout => some .handler
  | .loop | .loopInit | .poll | .serviceFrame | .arm | .decode | .dispatch | .actuate => some .loop
  | .volUp | .volDown | .mute | .loud | .quiet | .powerOn | .powerOff | .noneCmd _ => some .loop
  | .reservedEv _ => none

/-- "Only OP 0x0 to 0x3 can start a step" (R61). -/
def Instr.standalone : Instr → Bool
  | .reset | .tick | .edge | .loop => true
  | .loopInit | .poll | .serviceFrame | .arm | .timeout | .decode | .dispatch | .actuate => false
  | .reservedEv _ => false
  | .volUp | .volDown | .mute | .loud | .quiet | .powerOn | .powerOff | .noneCmd _ => false

/-- The number of a command identifier (R64, D13). -/
def Cmd.number : Cmd → BitVec 3
  | .volUp => 0#3
  | .volDown => 1#3
  | .mute => 2#3
  | .loud => 3#3
  | .quiet => 4#3
  | .powerOn => 5#3
  | .powerOff => 6#3
  | .noneCmd => 7#3

/-- The number of an error condition (R141 to R145, D23). -/
def Status.number : Status → Nat
  | .noise => 1
  | .short => 2
  | .unrecognized => 3
  | .unsupported => 4
  | .overflow => 5

/-- The row of the opcode table that a command identifier stands for; NONE carries the code that matched nothing. -/
def Cmd.instr (code : Code) : Cmd → Instr
  | .volUp => .volUp
  | .volDown => .volDown
  | .mute => .mute
  | .loud => .loud
  | .quiet => .quiet
  | .powerOn => .powerOn
  | .powerOff => .powerOff
  | .noneCmd => .noneCmd code

end Sys2Proof
end

