-- ==== Sys2Proof/Machine/Params.lean ====
section
/-! DEFINITION. The fixed parameters of spec/00_scope.md R6 that are values of a word type (the counts, bounds and widths stand
in Machine/Literals.lean and Word.lean), each one definition (R5, D24); the constraints on the open ones (R8); the Command Table ROM (spec/10_state.md R29), LOOKUP's list of rows and the check `disjoint` (R113); the vector
configuration VC (R14). -/

namespace Sys2Proof

/-- IR_REF, the bit threshold in ticks (R6). -/
def irRef : Ticks := 3000#_

/-- MUTE_RESET: muted (R6). -/
def muteReset : Bool := true

/-- CODE_VOL_UP: bytes 0xa6, 0x59, 0x0a, 0xf5 (R6). -/
def codeVolUp : Code := 0xF50A59A6#_

/-- CODE_QUIET: bytes 0xa6, 0x59, 0xd8, 0x27 (R6). -/
def codeQuiet : Code := 0x27D859A6#_

/-- The constraints of R8: 501 ≤ MIN_TICKS ≤ IR_REF < MAX_TICKS ≤ 65534. No step checks them: they are a condition on the
configuration that must be fixed before the rules hold (R172 (1)). -/
abbrev Config.wf (c : Config) : Prop :=
  500#_ < c.minTicks ∧ c.minTicks ≤ irRef ∧ irRef < c.maxTicks ∧ c.maxTicks ≤ 65534#_

/-- The NCMD rows of the Command Table in priority order (R29, R64, D12): a code word and its command. -/
def Config.rows (c : Config) : Vector (Code × Cmd) ncmd :=
  #v[(codeVolUp, .volUp), (c.codeVolDown, .volDown), (c.codeMute, .mute), (c.codeLoud, .loud), (codeQuiet, .quiet),
    (c.codePowerOn, .powerOn), (c.codePowerOff, .powerOff)]

/-- TABLE[0..6], the Command Table ROM (R29). -/
def Config.table (c : Config) : List Code := c.rows.toList.map (·.1)

/-- `TABLE(j)` of R10. There is no entry at an index above 6 (R40). -/
def Config.tableEntry (c : Config) (j : Nat) : Option Code := c.table[j]?

/-- `disjoint(TABLE)` of R113: no two entries are equal. A named check, assumed by no step. -/
abbrev Config.disjoint (c : Config) : Prop := c.table.Nodup

/-- The first row whose code word equals the code wins; NONE if none does. -/
def firstMatch (code : Code) : List (Code × Cmd) → Cmd
  | [] => .noneCmd
  | (word, cmd) :: rest => if word = code then cmd else firstMatch code rest

/-- LOOKUP (R101): full 32-bit equality against each entry, in priority order 0 to 6. -/
def Config.lookup (c : Config) (code : Code) : Cmd := firstMatch code c.rows.toList

/-- VC, the vector configuration of R14: values "this spec chose only to make the test vectors … concrete". EDGE_POLARITY and
TICK_PERIOD, which R14 does not name, are the model's (log entry 1). -/
def Config.vc : Config where
  minTicks := 1000#_
  maxTicks := 40000#_
  volDefault := 200#_
  volLoud := 230#_
  volQuiet := 60#_
  codeVolDown := 0xFD02FE01#_
  codeMute := 0xFC03FE01#_
  codeLoud := 0xFB04FE01#_
  codePowerOn := 0xFA05FE01#_
  codePowerOff := 0xF906FE01#_
  edgePolarity := .falling
  tickPeriod := 1

end Sys2Proof
end

