-- ==== Sys2Proof/WellFormed.lean ====
section
/-! DEFINITION. WellFormed: which terms of Instr stand for a word of the opcode table under a configuration. -/

namespace Sys2Proof

/-- An EV word that R68 (a) reserves: RSV (bits 7:4) is not 0000, or OP (bits 3:0) is 0x4 to 0x7. -/
def isReservedEv (word : Byte) : Bool := word.extractLsb' 4 4 != 0#4 || word.extractLsb' 2 2 == 1#2

/-- A command row stands for its TABLE entry only where LOOKUP gives that entry to it (R101: a higher entry equal to a lower one
can never be selected); NONE stands for a code that equals no entry (R110); RESERVED_EV for a reserved word (R68). -/
def Instr.wf (c : Config) : Instr → Bool
  | .reset | .tick | .edge | .loop => true
  | .loopInit | .poll | .serviceFrame | .arm | .timeout | .decode | .dispatch | .actuate => true
  | .reservedEv word => isReservedEv word
  | .volUp => c.lookup codeVolUp == .volUp
  | .volDown => c.lookup c.codeVolDown == .volDown
  | .mute => c.lookup c.codeMute == .mute
  | .loud => c.lookup c.codeLoud == .loud
  | .quiet => c.lookup codeQuiet == .quiet
  | .powerOn => c.lookup c.codePowerOn == .powerOn
  | .powerOff => c.lookup c.codePowerOff == .powerOff
  | .noneCmd code => c.lookup code == .noneCmd

end Sys2Proof
end

