-- ==== Sys2Proof/Decode.lean ====
section
/-! DEFINITION. Decode: from words and bytes to operations (spec/30_encoding.md R60 to R62, R67, R68), total, and the encoder
written from the same tables. -/

namespace Sys2Proof

/-- The operation an EV word stands for (R61). Every word that R68 (a) reserves decodes to RESERVED_EV and to nothing else. -/
def decodeEv (word : Byte) : Instr :=
  if isReservedEv word then .reservedEv word
  else
    match word.extractLsb' 0 4 with
    | 0x0#4 => .reset
    | 0x1#4 => .tick
    | 0x2#4 => .edge
    | 0x3#4 => .loop
    | 0x8#4 => .loopInit
    | 0x9#4 => .poll
    | 0xA#4 => .serviceFrame
    | 0xB#4 => .arm
    | 0xC#4 => .timeout
    | 0xD#4 => .decode
    | 0xE#4 => .dispatch
    | 0xF#4 => .actuate
    | _ => .reservedEv word

/-- The command a CODE32 word selects (R67): the first equal TABLE entry, else NONE. -/
def decodeCode (c : Config) (code : Code) : Instr := (c.lookup code).instr code

/-- The `n`-bit word whose bit `k` is `f k`. -/
def packBits (f : Nat → Bool) : (n : Nat) → BitVec n
  | 0 => 0#0
  | n + 1 => (packBits f n).cons (f n)

/-- The code of bytes given byte 0 first: bit `i` of byte `b` is bit `8·b + i`, so four bytes are `b3 ‖ b2 ‖ b1 ‖ b0` (R62, D11). -/
def codeOfBytes (bytes : List Byte) : Code :=
  packBits (fun k => (bytes.getD (k / byteBits) 0#_).getLsbD (k % byteBits)) nsamp

/-- The NBYTES bytes of a code, byte 0 first (R62, R41). -/
def codeBytes (code : Code) : List Byte := (List.range nbytes).map fun b => code.extractLsb' (byteBits * b) byteBits

/-- Why bytes are no encoding of an operation. -/
inductive DecodeError where
  /-- "Every EV word is 8 bits and every code is exactly 32 bits" (R70): no format has this many bytes. -/
  | badLength (bytes : Nat)
deriving DecidableEq, Repr

/-- The decoder over bytes: one byte is an EV word, NBYTES bytes are a code, byte 0 first; no other length is a format (R60, R70). -/
def decode (c : Config) : List Byte → Except DecodeError Instr
  | [word] => .ok (decodeEv word)
  | bytes => if bytes.length = nbytes then .ok (decodeCode c (codeOfBytes bytes)) else .error (.badLength bytes.length)

/-- The EV word of an operation (R61's table); a command row has none. -/
def Instr.evWord : Instr → Option Byte
  | .reset => some 0x00#8
  | .tick => some 0x01#8
  | .edge => some 0x02#8
  | .loop => some 0x03#8
  | .loopInit => some 0x08#8
  | .poll => some 0x09#8
  | .serviceFrame => some 0x0A#8
  | .arm => some 0x0B#8
  | .timeout => some 0x0C#8
  | .decode => some 0x0D#8
  | .dispatch => some 0x0E#8
  | .actuate => some 0x0F#8
  | .reservedEv word => some word
  | .volUp | .volDown | .mute | .loud | .quiet | .powerOn | .powerOff | .noneCmd _ => none

/-- The CODE32 word of a command row (R29, R67). The EV rows have none. -/
def Instr.codeWord (c : Config) : Instr → Option Code
  | .volUp => some codeVolUp
  | .volDown => some c.codeVolDown
  | .mute => some c.codeMute
  | .loud => some c.codeLoud
  | .quiet => some codeQuiet
  | .powerOn => some c.codePowerOn
  | .powerOff => some c.codePowerOff
  | .noneCmd code => some code
  | .reset | .tick | .edge | .loop => none
  | .loopInit | .poll | .serviceFrame | .arm | .timeout | .decode | .dispatch | .actuate => none
  | .reservedEv _ => none

/-- The encoder: the bytes of an operation. -/
def encode (c : Config) (i : Instr) : List Byte :=
  match i.evWord with
  | some word => [word]
  | none =>
    match i.codeWord c with
    | some code => codeBytes code
    | none => []

/-- The instruction read from the `nbits`-bit word `w` of spec/opcode_table.json: 8 bits are an EV word, 32 bits a code whose
byte 0 is bits 7:0, so the first byte. The five open codes are those of the configuration `State.reset` has (log entry 1). -/
def decodeTableWord (nbits w : Nat) : Option Instr :=
  if nbits = byteBits then (decode Config.vc [BitVec.ofNat byteBits w]).toOption
  else if nbits = nsamp then (decode Config.vc (codeBytes (BitVec.ofNat nsamp w))).toOption
  else none

end Sys2Proof
end

