-- ==== Sys2Proof/Machine/State.lean ====
section
/-! DEFINITION. State: everything spec/10_state.md gives the machine (R20 to R35), as plain data, with the inputs the environment
has pending and the words and events it has been sent; State.reset; the reasons a step can stop. -/

namespace Sys2Proof.Machine

/-- LPH, the control-loop phase, 1 bit (R21): INIT is 0 and RUN is 1. -/
inductive Lph where
  | init
  | run
deriving DecidableEq, Repr

/-- The events of the DIAG port (R155). Their text format is out of scope; only order and content are given. -/
inductive DiagEvent where
  /-- SAMPLES(n, s0..sn−1). -/
  | samples (n : Nat) (values : List Ticks)
  /-- CODE(c). -/
  | code (c : Code)
  /-- UNRECOGNIZED(c). -/
  | unrecognized (c : Code)
  /-- UNSUPPORTED(cmd). -/
  | unsupported (cmd : Cmd)
  /-- ACT_RESULT(w, r): the word sent and the word the device returned. -/
  | actResult (w : ActWord) (r : ActWord)
deriving DecidableEq, Repr

/-- Why a state violates one of the first four invariants of R36, so that a model refuses it (R36, R159, D32). -/
inductive IllegalState where
  /-- CAPSTAT = 11. -/
  | capstatReserved
  /-- COUNT > 256. -/
  | countOverCap
  /-- CAPSTAT = NOT_ARMED without LPH = INIT, or LPH = INIT without CAPSTAT = NOT_ARMED. -/
  | phaseMismatch
  /-- CAPSTAT = FRAME_READY with COUNT = 0. -/
  | frameReadyEmpty
deriving DecidableEq, Repr

/-- The block has no fault outcome (R159): it raises no synchronous exception and takes no trap, and every error condition is
handled where it arises (R140). So no constructor stands here. -/
inductive Fault where
deriving DecidableEq, Repr

/-- Why a step is refused. A refused run says nothing of the hardware (R159). -/
inductive Refusal where
  /-- An operation the model gives no meaning to: no arm of exec answers it. Safe. -/
  | notModelled (mnemonic : String)
  /-- Raised by RESERVED_EV: an EV word with OP 0x4 to 0x7 or RSV ≠ 0 (R68 (a)). Safe: the spec gives the word no effect. -/
  | reservedWord (word : Byte)
  /-- Raised by step: an EV word with OP 0x8 to 0xF issued as a step of its own (R68 (b)). Safe: the action happens only inside
  the step R61 names. -/
  | internalOp (word : Byte)
  /-- Raised by TICK, EDGE and LOOP in a state that R36 shows unreachable (R121, R159, D32). Safe. -/
  | illegalState (why : IllegalState)
  /-- Raised by SERVICE_FRAME when COUNT asks for a sample at this index, at or above CAP (R44). Safe. -/
  | sampleIndex (index : Nat)
deriving DecidableEq, Repr

/-- The state of IRCORE (R20 to R32, R35), then what stands at its boundary (D33), then the model's own counter. -/
structure State where
  /-- The configuration (R7), with the Command Table ROM (R29). No step writes it. -/
  cfg : Config
  /-- LPH (R21). -/
  lph : Lph
  /-- CAPSTAT, 2 bits: bit 0 is CAPEN and bit 1 is FRDY (R22). -/
  capstat : BitVec 2
  /-- COUNT, 9 bits, 0 to 256 (R25). -/
  count : BitVec 9
  /-- SAMPLE[0..255], the Sample Buffer (R26). -/
  sample : Vector Ticks cap
  /-- TCNT, 16 bits (R28). -/
  tcnt : Ticks
  /-- VOLUME, 8 bits (R30). -/
  volume : Volume
  /-- MUTE, 1 bit: true is muted (R30). -/
  mute : Bool
  /-- CODE and CODE_VALID (R31): `none` is CODE_VALID = 0. They "exist only inside one SERVICE_FRAME step", so the field holds
  `none` between steps. -/
  decoded : Option Code
  /-- The words emitted on ACT so far, oldest first (R12, R32). -/
  act : List ActWord
  /-- The events emitted on DIAG so far, oldest first (R12, R32, R155). -/
  diag : List DiagEvent
  /-- The EV words of the schedule still to come, one a step (R71). -/
  script : List Byte
  /-- The values that the next draws take; past the end of the list a draw is a free value. -/
  draws : List (BitVec 16)
  /-- The model's own: how many free choices have been made, so that each is a fresh one. -/
  drawn : Nat
deriving DecidableEq, Repr

/-- The machine right after RESET with the configuration `c`, the draw `tcnt` of TCNT_RESET and the unspecified buffer contents
`sample` (R35), nothing emitted and nothing pending. -/
def State.resetWith (c : Config) (tcnt : Ticks) (sample : Vector Ticks cap) : State where
  cfg := c
  lph := .init
  capstat := 0#2
  count := 0#9
  sample := sample
  tcnt := tcnt
  volume := c.volDefault
  mute := muteReset
  decoded := none
  act := []
  diag := []
  script := []
  draws := []
  drawn := 0

/-- The machine right after reset: R35's values. What R35 leaves open has the value of log entries 1 and 2: the configuration VC,
TCNT = 0 and a Sample Buffer of zeros. No statement rests on these. -/
def State.reset : State := .resetWith Config.vc 0#_ (Vector.replicate cap 0#_)

end Sys2Proof.Machine
end

