-- ==== Sys2Proof/Machine/Flags.lean ====
section
/-! DEFINITION. Flags: the status flags of spec/10_state.md R33. CAPEN and FRDY are the two fields of CAPSTAT (R22); MUTE is a
register of its own. The block has no arithmetic condition codes. -/

namespace Sys2Proof.Machine

/-- CAPSTAT = 00 (R22). -/
abbrev notArmed : BitVec 2 := 0b00#2

/-- CAPSTAT = 01 (R22). -/
abbrev armed : BitVec 2 := 0b01#2

/-- CAPSTAT = 10 (R22). -/
abbrev frameReady : BitVec 2 := 0b10#2

/-- CAPSTAT = 11, reserved (R22). -/
abbrev capstatReserved : BitVec 2 := 0b11#2

/-- CAPEN, CAPSTAT[0] (R22, R33). -/
def State.capen (s : State) : Bool := s.capstat[0]

/-- FRDY, CAPSTAT[1] (R22, R33). -/
def State.frdy (s : State) : Bool := s.capstat[1]

/-- CAPSTAT from its two fields. -/
def packCapstat (frdy capen : Bool) : BitVec 2 := BitVec.ofBool frdy ++ BitVec.ofBool capen

/-- `CAPEN <- b`: the other field stays. -/
def State.setCapen (b : Bool) (s : State) : State := { s with capstat := packCapstat s.frdy b }

/-- `FRDY <- b`: the other field stays. -/
def State.setFrdy (b : Bool) (s : State) : State := { s with capstat := packCapstat b s.capen }

/-- `MUTE <- b` (R33). -/
def State.setMute (b : Bool) (s : State) : State := { s with mute := b }

/-- "Capturing" is CAPSTAT = ARMED with COUNT > 0 (R23). -/
def State.capturing (s : State) : Bool := s.capstat == armed && s.count != 0#9

/-- "Armed" in the narrow sense is CAPSTAT = ARMED with COUNT = 0 (R23). -/
def State.armedEmpty (s : State) : Bool := s.capstat == armed && s.count == 0#9

/-- The bit that encodes LPH (R21). -/
def Lph.bit : Lph → BitVec 1
  | .init => 0#1
  | .run => 1#1

/-- Which of the first four invariants of R36 a state violates, if any. TICK, EDGE and LOOP refuse such a state (D32). -/
def State.illegal (s : State) : Option IllegalState :=
  if s.capstat = capstatReserved then some .capstatReserved
  else if cap < s.count.toNat then some .countOverCap
  else if decide (s.lph = .init) != decide (s.capstat = notArmed) then some .phaseMismatch
  else if s.capstat = frameReady ∧ s.count = 0#9 then some .frameReadyEmpty
  else none

end Sys2Proof.Machine
end

