-- ==== Sys2Proof/Machine/Operands.lean ====
section
/-! DEFINITION. Operands: every operand form of the block (spec/30_encoding.md R65). An operation takes its operands from fixed
state: the measured interval, samples by index, the decoded word, the actuator word, saturated volumes. -/

namespace Sys2Proof.Machine

/-- `valid(t)` of R81: MIN_TICKS ≤ t ≤ MAX_TICKS, both inclusive, unsigned. -/
def validInterval (c : Config) (t : Ticks) : Bool := decide (c.minTicks ≤ t) && decide (t ≤ c.maxTicks)

/-- `MemRead(i, 2)` of R10: sample `i` as one whole 16-bit value, and no value at an index at or above CAP (R44). -/
def State.memRead (s : State) (i : Nat) : Option Ticks := s.sample[i]?

/-- `MemWrite(i, 2, v)` of R10: sample `i` becomes `v`. -/
def State.memWrite (i : Nat) (v : Ticks) (s : State) : State := { s with sample := s.sample.setIfInBounds i v }

/-- `[MemRead(i, 2) for i in 0..COUNT-1]` (R124). -/
def State.frame (s : State) : List Ticks := s.sample.toList.take s.count.toNat

/-- One bit of the code: 1 exactly where the sample exceeds IR_REF (R62, R90). -/
def State.codeBit (s : State) (k : Nat) : Bool :=
  match s.memRead k with
  | some t => decide (irRef < t)
  | none => false

/-- DECODE's result (R90): absent when COUNT < 32, else the word whose bit `k` comes from sample `k`. -/
def State.decodeFrame (s : State) : Option Code :=
  if s.count.toNat < nsamp then none else some (packBits s.codeBit nsamp)

/-- The word of ACTUATE (R63, R112): VOLUME in both halves, or 0 when muted. -/
def State.actWord (s : State) : ActWord := if s.mute then 0#16 else s.volume ++ s.volume

/-- `min(VOLUME + 1, 255)`, exact on integers (R103, R9). -/
def volumeUp (v : Volume) : Volume := .ofNat _ (min (v.toNat + 1) vmax)

/-- `max(VOLUME - 1, 0)`, exact on integers: the difference of naturals floors at 0 (R104). -/
def volumeDown (v : Volume) : Volume := .ofNat _ (max (v.toNat - 1) vmin)

/-- NOISE or OVERFLOW, where an EDGE reports one (R141, R145): with CAPEN = 1, an interval out of range is NOISE, and an interval
in range with COUNT = 256 is OVERFLOW. -/
def State.edgeStatus (s : State) : Option Status :=
  if s.capen then
    if validInterval s.cfg s.tcnt then (if s.count.toNat < cap then none else some .overflow) else some .noise
  else none

/-- UNRECOGNIZED or UNSUPPORTED, where a command reports one (R143, R144). -/
def cmdStatus : Cmd → Option Status
  | .noneCmd => some .unrecognized
  | .powerOn | .powerOff => some .unsupported
  | .volUp | .volDown | .mute | .loud | .quiet => none

/-- The condition SERVICE_FRAME reports, if any (R142 to R144): SHORT, or what the selected command reports. -/
def State.frameStatus (s : State) : Option Status :=
  match s.decodeFrame with
  | none => some .short
  | some code => cmdStatus (s.cfg.lookup code)

end Sys2Proof.Machine
end

