-- ==== Sys2Proof/Machine/Ops.lean ====
section
/-! DEFINITION. Ops: the named operations the meanings are written over: register writes, the output ports, draws, ARM, the entry
of the capture handler, ACTUATE, the command actions, DISPATCH, the fetch of the next EV word, and how an operation is placed. -/

namespace Sys2Proof.Machine

/-! ## Register writes (R10 `NAME <- v`), ports and draws -/

/-- `LPH <- phase` (R21). -/
def State.setLph (p : Lph) (s : State) : State := { s with lph := p }

/-- `COUNT <- n` (R25). -/
def State.setCount (n : BitVec 9) (s : State) : State := { s with count := n }

/-- `TCNT <- t` (R28). -/
def State.setTcnt (t : Ticks) (s : State) : State := { s with tcnt := t }

/-- `VOLUME <- v` (R30). -/
def State.setVolume (v : Volume) (s : State) : State := { s with volume := v }

/-- CODE_VALID and CODE take the value of a DECODE, or are dropped at the end of SERVICE_FRAME (R31). -/
def State.setDecoded (c : Option Code) (s : State) : State := { s with decoded := c }

/-- `emit ACT(w)` (R10). -/
def State.emitAct (w : ActWord) (s : State) : State := { s with act := s.act ++ [w] }

/-- `emit DIAG(e)` (R10). -/
def State.emitDiag (e : DiagEvent) (s : State) : State := { s with diag := s.diag ++ [e] }

/-- The value of the next 16-bit draw: the one State lists, else a free value (log entry 3). -/
def State.nextDraw (s : State) : BitVec 16 :=
  match s.draws with
  | d :: _ => d
  | [] => Config.freeDraw s.drawn

/-- The state after a draw. -/
def State.afterDraw (s : State) : State := { s with draws := s.draws.tail, drawn := s.drawn + 1 }

/-! ## RESET -/

/-- R170: every piece of state takes the reset value of R35. TCNT is a draw and SAMPLE is any value. The configuration is not
reset, nothing is emitted, and the inputs the environment has pending stay with the environment. -/
def State.resetEffect (s : State) : State :=
  { s.afterDraw with
    lph := .init
    capstat := notArmed
    count := 0#9
    sample := Vector.ofFn fun i => Config.freeSample s.drawn i.val
    tcnt := s.nextDraw
    volume := s.cfg.volDefault
    mute := muteReset
    decoded := none }

/-! ## Capture -/

/-- ARM (R86): COUNT <- 0, FRDY <- 0, CAPEN <- 1. SAMPLE and TCNT are not touched. -/
def State.armEffect (s : State) : State := ((s.setCount 0#9).setFrdy false).setCapen true

/-- TIMEOUT (R84): with COUNT ≥ 1, CAPEN <- 0 and FRDY <- 1 in one step. With COUNT = 0, nothing (R85). -/
def State.timeoutEffect (s : State) : State :=
  if 1 ≤ s.count.toNat then (s.setCapen false).setFrdy true else s

/-- The effect of an enabled EDGE (R82): measure TCNT, reset it, and record the interval if it is in range and there is room. -/
def State.captureEffect (s : State) : State :=
  let t := s.tcnt
  let s0 := s.setTcnt 0#_
  if validInterval s.cfg t then
    if s.count.toNat < cap then (s0.memWrite s.count.toNat t).setCount (s.count + 1#9) else s0
  else s0

/-- Handler entry (R146, R148), the one shared operation: an event whose source is enabled (CAPEN = 1) has its effect at once, in
the same atomic step; a masked event (CAPEN = 0) is lost. No state is saved and no mode or mask changes but by the effect itself.
The return (R149) is the end of the effect: nothing is restored. -/
def State.runHandler (e : HandlerEvent) (s : State) : State :=
  if s.capen then
    match e with
    | .capture => s.captureEffect
    | .timeout => s.timeoutEffect
  else s

/-- TICK (R80): TCNT counts modulo 2^16; the tick that carries it from MAX_TICKS to MAX_TICKS + 1 is the timeout event. -/
def State.tickEffect (s : State) : State :=
  let s1 := s.setTcnt (s.tcnt + 1#_)
  if s.tcnt = s.cfg.maxTicks then s1.runHandler .timeout else s1

/-! ## Decode, command actions, DISPATCH -/

/-- DECODE (R90): the result goes to CODE_VALID and CODE (R31), and no other state is written. -/
def State.decodeEffect (s : State) : State := s.setDecoded s.decodeFrame

/-- ACTUATE (R112): emit the word, draw the word the device returns, report both. -/
def State.actuate (s : State) : State :=
  let s1 := s.emitAct s.actWord
  s1.afterDraw.emitDiag (.actResult s.actWord s1.nextDraw)

/-- VOL_UP (R103). -/
def State.volUpAction (s : State) : State :=
  if s.mute then s.setMute false else s.setVolume (volumeUp s.volume)

/-- VOL_DOWN (R104). -/
def State.volDownAction (s : State) : State :=
  if s.mute then s.setMute false else s.setVolume (volumeDown s.volume)

/-- MUTE (R105): VOLUME is preserved. -/
def State.muteAction (s : State) : State := s.setMute true

/-- LOUD (R106). -/
def State.loudAction (s : State) : State := (s.setMute false).setVolume s.cfg.volLoud

/-- QUIET (R107). -/
def State.quietAction (s : State) : State := (s.setMute false).setVolume s.cfg.volQuiet

/-- POWER_ON (R108): reported as unsupported, no state change. -/
def State.powerOnAction (s : State) : State := s.emitDiag (.unsupported .powerOn)

/-- POWER_OFF (R109): reported as unsupported, no state change. -/
def State.powerOffAction (s : State) : State := s.emitDiag (.unsupported .powerOff)

/-- NONE (R110): reported as unrecognized, no state change and no actuator call. -/
def State.noneAction (code : Code) (s : State) : State := s.emitDiag (.unrecognized code)

/-- The action of a command, without the actuator call (R102's `case`). -/
def State.commandAction (code : Code) (cmd : Cmd) (s : State) : State :=
  match cmd with
  | .volUp => s.volUpAction
  | .volDown => s.volDownAction
  | .mute => s.muteAction
  | .loud => s.loudAction
  | .quiet => s.quietAction
  | .powerOn => s.powerOnAction
  | .powerOff => s.powerOffAction
  | .noneCmd => s.noneAction code

/-- DISPATCH(CODE) (R102, R111): LOOKUP, the command's action, then ACTUATE unless the command is NONE. -/
def State.dispatchCode (code : Code) (s : State) : State :=
  match s.cfg.lookup code with
  | .noneCmd => s.noneAction code
  | cmd => (s.commandAction code cmd).actuate

/-- DISPATCH of the decoded code (R102). It is not performed when CODE_VALID = 0 (D34). -/
def State.dispatchEffect (s : State) : State :=
  match s.decoded with
  | some code => s.dispatchCode code
  | none => s

/-! ## The control loop -/

/-- LOOP_INIT (R122): ARM, then LPH <- RUN. -/
def State.loopInitEffect (s : State) : State := s.armEffect.setLph .run

/-- SERVICE_FRAME's report of the decoded code and its DISPATCH (R124); nothing for a short frame (R142). -/
def State.serviceCode (s : State) : State :=
  match s.decoded with
  | some code => (s.emitDiag (.code code)).dispatchEffect
  | none => s

/-- SERVICE_FRAME (R124): dump the samples, DECODE, report and DISPATCH a valid code, drop CODE and CODE_VALID (R31), ARM
unconditionally. Every read of the frame comes before the ARM (R49). -/
def State.serviceFrameEffect (s : State) : State :=
  (((s.emitDiag (.samples s.count.toNat s.frame)).decodeEffect.serviceCode).setDecoded none).armEffect

/-! ## The schedule -/

/-- The EV word of the next step: the next pending script line (R71), else any of the four standalone operations, by a free
choice (log entry 4: every interleaving of ENV and LOOP steps is admitted, D8). -/
def State.nextWord (s : State) : Byte :=
  match s.script with
  | w :: _ => w
  | [] => (Config.freeOp s.drawn).setWidth 8

/-- The state after the next EV word is taken. -/
def State.afterFetch (s : State) : State :=
  match s.script with
  | _ :: rest => { s with script := rest }
  | [] => { s with drawn := s.drawn + 1 }

/-- Put an EV word before the pending script lines. -/
def State.pushWord (w : Byte) (s : State) : State := { s with script := w :: s.script }

/-! ## How an operation comes to be the next one (log entry 6)

A standalone EV word is placed as the next script line. R68 (b) refuses an internal operation issued alone, and a command is
a code in a frame; each of these is brought about the way the spec brings it about: in the step that R61's table names. -/

/-- A frame of 32 samples that decodes to `code`, frozen and ready: a 1 bit is MAX_TICKS and a 0 bit is MIN_TICKS (R93). -/
def State.placeCode (code : Code) (s : State) : State :=
  { s with
    lph := .run
    capstat := frameReady
    count := BitVec.ofNat 9 nsamp
    sample := (List.range nsamp).foldl
      (fun v k => v.setIfInBounds k (if code.getLsbD k then s.cfg.maxTicks else s.cfg.minTicks)) s.sample }

/-- The state in which the next step performs operation `i` (R61, column "selected when"), given the EV word `w` it came from. -/
def State.placeOp (i : Instr) (w : Byte) (s : State) : State :=
  match i with
  | .loopInit | .arm => ({ s with lph := .init, capstat := notArmed } : State).pushWord 0x03#8
  | .poll => ({ s with lph := .run, capstat := armed } : State).pushWord 0x03#8
  | .timeout => ({ s with lph := .run, capstat := armed, tcnt := s.cfg.maxTicks } : State).pushWord 0x01#8
  | .serviceFrame | .decode | .dispatch =>
    ({ s with lph := .run, capstat := frameReady, count := BitVec.ofNat 9 nsamp } : State).pushWord 0x03#8
  | .actuate => (s.placeCode codeVolUp).pushWord 0x03#8
  | .reset | .tick | .edge | .loop | .reservedEv _ => s.pushWord w
  | .volUp | .volDown | .mute | .loud | .quiet | .powerOn | .powerOff | .noneCmd _ => s.pushWord w

end Sys2Proof.Machine
end

