-- ==== Sys2Proof/Machine/Capture.lean ====
section
/-! DEFINITION. The meanings of TICK, EDGE, TIMEOUT and ARM (spec/40_capture.md R80 to R89). -/

namespace Sys2Proof.Machine

/-- TICK (R80). A state that violates R36 is refused (D32). -/
def execTick (s : State) : Host.Outcome State Fault Refusal :=
  match s.illegal with
  | some why => .refused (.illegalState why)
  | none => .next s.tickEffect

/-- EDGE (R82): the capture trigger's handler event (R146). A state that violates R36 is refused (D32). -/
def execEdge (s : State) : Host.Outcome State Fault Refusal :=
  match s.illegal with
  | some why => .refused (.illegalState why)
  | none => .next (s.runHandler .capture)

/-- TIMEOUT (R84, R85), as part of a TICK. -/
def execTimeout (s : State) : Host.Outcome State Fault Refusal := .next s.timeoutEffect

/-- ARM (R86), as part of LOOP_INIT or SERVICE_FRAME. -/
def execArm (s : State) : Host.Outcome State Fault Refusal := .next s.armEffect

end Sys2Proof.Machine
end

