-- ==== Sys2Proof/Machine/ControlLoop.lean ====
section
/-! DEFINITION. The meanings of LOOP, LOOP_INIT, POLL and SERVICE_FRAME (spec/43_control_loop.md R120 to R128). -/

namespace Sys2Proof.Machine

/-- LOOP_INIT (R122). -/
def execLoopInit (s : State) : Host.Outcome State Fault Refusal := .next s.loopInitEffect

/-- POLL (R123): the transport is out of scope, and no state of the block changes. -/
def execPoll (s : State) : Host.Outcome State Fault Refusal := .next s

/-- SERVICE_FRAME (R124). A COUNT above CAP would read SAMPLE[256], which is refused (R44). -/
def execServiceFrame (s : State) : Host.Outcome State Fault Refusal :=
  if cap < s.count.toNat then .refused (.sampleIndex cap) else .next s.serviceFrameEffect

/-- LOOP (R121): one internal action, chosen by LPH and CAPSTAT. A state that violates R36 is refused (D32). -/
def execLoop (s : State) : Host.Outcome State Fault Refusal :=
  match s.illegal with
  | some why => .refused (.illegalState why)
  | none =>
    if s.lph = .init then execLoopInit s
    else if s.capstat = frameReady then execServiceFrame s
    else execPoll s

end Sys2Proof.Machine
end

