-- ==== Sys2Proof/Machine/Gain.lean ====
section
/-! DEFINITION. The meanings of DECODE (spec/41_decode.md R90), DISPATCH, ACTUATE and the eight commands (spec/42_dispatch.md
R100 to R115), as parts of SERVICE_FRAME. -/

namespace Sys2Proof.Machine

/-- DECODE (R90). -/
def execDecode (s : State) : Host.Outcome State Fault Refusal := .next s.decodeEffect

/-- DISPATCH (R102). -/
def execDispatch (s : State) : Host.Outcome State Fault Refusal := .next s.dispatchEffect

/-- ACTUATE (R112). -/
def execActuate (s : State) : Host.Outcome State Fault Refusal := .next s.actuate

/-- VOL_UP (R103): the action; DISPATCH calls ACTUATE after it. -/
def execVolUp (s : State) : Host.Outcome State Fault Refusal := .next s.volUpAction

/-- VOL_DOWN (R104). -/
def execVolDown (s : State) : Host.Outcome State Fault Refusal := .next s.volDownAction

/-- MUTE (R105). -/
def execMute (s : State) : Host.Outcome State Fault Refusal := .next s.muteAction

/-- LOUD (R106). -/
def execLoud (s : State) : Host.Outcome State Fault Refusal := .next s.loudAction

/-- QUIET (R107). -/
def execQuiet (s : State) : Host.Outcome State Fault Refusal := .next s.quietAction

/-- POWER_ON (R108). -/
def execPowerOn (s : State) : Host.Outcome State Fault Refusal := .next s.powerOnAction

/-- POWER_OFF (R109). -/
def execPowerOff (s : State) : Host.Outcome State Fault Refusal := .next s.powerOffAction

/-- NONE (R110). -/
def execNoneCmd (code : Code) (s : State) : Host.Outcome State Fault Refusal := .next (s.noneAction code)

end Sys2Proof.Machine
end

