-- ==== Sys2Proof/Machine/Reset.lean ====
section
/-! DEFINITION. The meanings of RESET (spec/70_reset_and_hazards.md R170) and of the reserved EV words (spec/30_encoding.md R68). -/

namespace Sys2Proof.Machine

/-- RESET (R170), issued by ENV at any time, from any state. -/
def execReset (s : State) : Host.Outcome State Fault Refusal := .next s.resetEffect

/-- RESERVED_EV (R68 (a)): "A model refuses it." -/
def execReservedEv (word : Byte) (_s : State) : Host.Outcome State Fault Refusal := .refused (.reservedWord word)

end Sys2Proof.Machine
end

