-- ==== Sys2Proof/Machine/Dispatch.lean ====
section
/-! DEFINITION. Dispatch: one arm per row of spec/opcode_table.json. -/

namespace Sys2Proof.Machine

def exec (i : Instr) (s : State) : Host.Outcome State Fault Refusal :=
  match i with
  | .reset => Sys2Proof.Machine.execReset s
  | .tick => Sys2Proof.Machine.execTick s
  | .edge => Sys2Proof.Machine.execEdge s
  | .loop => Sys2Proof.Machine.execLoop s
  | .loopInit => Sys2Proof.Machine.execLoopInit s
  | .poll => Sys2Proof.Machine.execPoll s
  | .serviceFrame => Sys2Proof.Machine.execServiceFrame s
  | .arm => Sys2Proof.Machine.execArm s
  | .timeout => Sys2Proof.Machine.execTimeout s
  | .decode => Sys2Proof.Machine.execDecode s
  | .dispatch => Sys2Proof.Machine.execDispatch s
  | .actuate => Sys2Proof.Machine.execActuate s
  | .reservedEv word => Sys2Proof.Machine.execReservedEv word s
  | .volUp => Sys2Proof.Machine.execVolUp s
  | .volDown => Sys2Proof.Machine.execVolDown s
  | .mute => Sys2Proof.Machine.execMute s
  | .loud => Sys2Proof.Machine.execLoud s
  | .quiet => Sys2Proof.Machine.execQuiet s
  | .powerOn => Sys2Proof.Machine.execPowerOn s
  | .powerOff => Sys2Proof.Machine.execPowerOff s
  | .noneCmd code => Sys2Proof.Machine.execNoneCmd code s

end Sys2Proof.Machine
end

