-- ==== Sys2Proof/Machine/Step.lean ====
section
/-! DEFINITION. Step: one step of the block (spec/00_scope.md R11), and how an operation is placed to be the next step. -/

namespace Sys2Proof.Machine

/-- One step: take the next EV word and run the operation it stands for. "Only OP 0x0 to 0x3 can start a step" (R61); a reserved
word is refused by its own meaning, and an internal operation issued as a step of its own is refused here (R68 (b)). -/
def step (s : State) : Host.Outcome State Fault Refusal :=
  let i := decodeEv s.nextWord
  if i.standalone || i.kind == .reserved then exec i s.afterFetch
  else .refused (.internalOp s.nextWord)

/-- `s` with the `nbits`-bit word `w` placed so that the next step performs it: an EV word (8 bits) as R61's table says when it
is selected, a code (32 bits) as the code of a ready frame that LOOP services (log entry 6). -/
def State.withFetchWord (s : State) (nbits w : Nat) : State :=
  if nbits = nsamp then (s.placeCode (BitVec.ofNat nsamp w)).pushWord 0x03#8
  else s.placeOp (decodeEv (BitVec.ofNat byteBits w)) (BitVec.ofNat byteBits w)

end Sys2Proof.Machine
end

