-- ==== Sys2Proof/Machine/Script.lean ====
section
/-! DEFINITION. Script: the script language of spec/30_encoding.md R71 and R72: its lines, the EV words they expand to, and the
reader of its text. The words go to `State.script`, the schedule a run follows. -/

namespace Sys2Proof.Machine

/-- A line of a script: one operation (R71) or a pseudo-instruction (R72). -/
inductive ScriptLine where
  | reset
  | tick
  | edge
  | loop
  /-- `ADVANCE n`. -/
  | advance (n : Nat)
  /-- `PULSE t`. -/
  | pulse (t : Nat)
  /-- `GAP`. -/
  | gap
  /-- `FRAME t0, …, tn−1`. R72 gives no lower bound for n: that n = 0 is a line is the model's DESIGN CHOICE (log entry 8). -/
  | frame (ts : List Nat)
  /-- `SEND c`. -/
  | send (c : Code)
deriving DecidableEq, Repr

/-- The script parameters BIT0_TICKS and BIT1_TICKS (R72). -/
structure BitTicks where
  bit0 : Nat
  bit1 : Nat
deriving DecidableEq, Repr

/-- MIN_TICKS ≤ BIT0_TICKS ≤ IR_REF < BIT1_TICKS ≤ MAX_TICKS (R72). -/
abbrev BitTicks.wf (c : Config) (p : BitTicks) : Prop :=
  c.minTicks.toNat ≤ p.bit0 ∧ p.bit0 ≤ irRef.toNat ∧ irRef.toNat < p.bit1 ∧ p.bit1 ≤ c.maxTicks.toNat

/-- The parameters R72 gives for VC. -/
def BitTicks.vc : BitTicks where
  bit0 := 1500
  bit1 := 4500

/-- `n` lines of `TICK` (R72). -/
def advanceWords (n : Nat) : List Byte := List.replicate n 0x01#8

/-- `ADVANCE t`, then `EDGE` (R72). -/
def pulseWords (t : Nat) : List Byte := advanceWords t ++ [0x02#8]

/-- The PULSEs of a list of intervals. -/
def pulsesWords (ts : List Nat) : List Byte := ts.flatMap pulseWords

/-- `ADVANCE MAX_TICKS+1` (R72). -/
def gapWords (c : Config) : List Byte := advanceWords (c.maxTicks.toNat + 1)

/-- `EDGE`, the PULSEs, `GAP`, `LOOP` (R72). -/
def frameWords (c : Config) (ts : List Nat) : List Byte := 0x02#8 :: (pulsesWords ts ++ (gapWords c ++ [0x03#8]))

/-- The intervals of a SEND: BIT1_TICKS where the bit of the code is 1, else BIT0_TICKS, bit 0 first (R72). -/
def sendIntervals (p : BitTicks) (code : Code) : List Nat :=
  (List.range nsamp).map fun k => if code.getLsbD k then p.bit1 else p.bit0

/-- The EV words a line encodes as (R71, R72). -/
def ScriptLine.words (c : Config) (p : BitTicks) : ScriptLine → List Byte
  | .reset => [0x00#8]
  | .tick => [0x01#8]
  | .edge => [0x02#8]
  | .loop => [0x03#8]
  | .advance n => advanceWords n
  | .pulse t => pulseWords t
  | .gap => gapWords c
  | .frame ts => frameWords c ts
  | .send code => frameWords c (sendIntervals p code)

/-! ## The text of a script -/

/-- The blank characters of a line. The spec names none (log entry 8). -/
def isBlank (ch : Char) : Bool := ch == ' ' || ch == '\t'

/-- Without blanks at either end. -/
def trimBlanks (cs : List Char) : List Char := ((cs.dropWhile isBlank).reverse.dropWhile isBlank).reverse

/-- The parts of a text between separators. -/
def splitAtChar (sep : Char) : List Char → List (List Char)
  | [] => [[]]
  | ch :: rest =>
    match splitAtChar sep rest with
    | [] => [[ch]]
    | part :: parts => if ch = sep then [] :: part :: parts else (ch :: part) :: parts

/-- The value of a digit below `base`. -/
def digitValue (base : Nat) (ch : Char) : Option Nat :=
  let n := ch.toNat
  let v := if 48 ≤ n ∧ n ≤ 57 then n - 48 else if 65 ≤ n ∧ n ≤ 70 then n - 55 else if 97 ≤ n ∧ n ≤ 102 then n - 87 else base
  if v < base then some v else none

/-- The value of digits after those whose value is `acc`. -/
def digitsValue (base : Nat) (acc : Nat) : List Char → Option Nat
  | [] => some acc
  | ch :: rest =>
    match digitValue base ch with
    | some v => digitsValue base (acc * base + v) rest
    | none => none

/-- A number: decimal, or hexadecimal "written 0x..." (R9). -/
def parseNumber : List Char → Option Nat
  | [] => none
  | '0' :: 'x' :: ch :: rest => digitsValue 16 0 (ch :: rest)
  | cs => digitsValue 10 0 cs

/-- One line without its comment and without blanks at its ends: an operation name, or a pseudo-instruction and its operands.
DESIGN CHOICE (log entry 8): `FRAME` with no interval, of which R72 and R73 say nothing, is a line, and expands to `EDGE`, `GAP`,
`LOOP`. DESIGN CHOICE (log entry 8): no line of text names a start state, for which R71 gives no form; the start state of a script
is the State in whose field `script` its words are put. -/
def parseLine (cs : List Char) : Option ScriptLine :=
  let name := cs.takeWhile fun ch => !isBlank ch
  let rest := trimBlanks (cs.drop name.length)
  let operands := (splitAtChar ',' rest).mapM fun part => parseNumber (trimBlanks part)
  if name = ['R', 'E', 'S', 'E', 'T'] ∧ rest = [] then some .reset
  else if name = ['T', 'I', 'C', 'K'] ∧ rest = [] then some .tick
  else if name = ['E', 'D', 'G', 'E'] ∧ rest = [] then some .edge
  else if name = ['L', 'O', 'O', 'P'] ∧ rest = [] then some .loop
  else if name = ['G', 'A', 'P'] ∧ rest = [] then some .gap
  else if name = ['A', 'D', 'V', 'A', 'N', 'C', 'E'] then
    match operands with
    | some [n] => some (.advance n)
    | _ => none
  else if name = ['P', 'U', 'L', 'S', 'E'] then
    match operands with
    | some [t] => some (.pulse t)
    | _ => none
  else if name = ['F', 'R', 'A', 'M', 'E'] then
    match operands with
    | some ts => some (.frame ts)
    | none => if rest = [] then some (.frame []) else none
  else if name = ['S', 'E', 'N', 'D'] then
    match operands with
    | some [code] => if code < 2 ^ nsamp then some (.send (BitVec.ofNat nsamp code)) else none
    | _ => none
  else none

/-- The EV words of one line of text: "Text after `;` is a comment", and a line with nothing else encodes as nothing (R71). -/
def assembleLine (c : Config) (p : BitTicks) (cs : List Char) : Option (List Byte) :=
  let body := trimBlanks (cs.takeWhile fun ch => ch != ';')
  if body = [] then some [] else (parseLine body).map (·.words c p)

/-- The EV words of a script, "One operation per line", in order (R71); none if a line is no line of the language. DESIGN CHOICE
(log entry 8): only a line feed ends a line, and a carriage return before it is a character of the line, no blank. -/
def assemble (c : Config) (p : BitTicks) (text : List Char) : Option (List Byte) :=
  ((splitAtChar '\n' text).mapM (assembleLine c p)).map List.flatten

end Sys2Proof.Machine
end

