-- ==== Sys2Proof/Safety.lean ====
section
/-! DEFINITION. Safety: the terms claims are made in. The invariant of spec/10_state.md R27 and R36, quiescent points (R128), the
precondition of FRAME and SEND (R73), what a run is observed through (R12), schedules and their fairness (D21, R183). -/

namespace Sys2Proof.Machine

/-- What every state reachable from reset satisfies: the configuration is one R8 allows, and the invariants of R36, R27, R31. -/
structure State.Inv (s : State) : Prop where
  /-- R8, R172 (1). -/
  config : s.cfg.wf
  /-- The first four invariants of R36. -/
  legal : s.illegal = none
  /-- The fifth invariant of R36: while a frame is being captured, TCNT ≤ MAX_TICKS. -/
  window : s.capstat = armed → s.count ≠ 0#9 → s.tcnt ≤ s.cfg.maxTicks
  /-- R27: every sample below COUNT is in the valid range. -/
  inRange : ∀ t ∈ s.frame, validInterval s.cfg t = true
  /-- R31: CODE and CODE_VALID exist only inside a SERVICE_FRAME step. -/
  noCode : s.decoded = none

/-- A quiescent point: LPH = RUN, CAPSTAT = ARMED and COUNT = 0 (R128). -/
abbrev State.Quiescent (s : State) : Prop := s.lph = .run ∧ s.capstat = armed ∧ s.count = 0#9

/-- The precondition of FRAME and SEND (R73), at a quiescent point: TCNT is outside [MIN_TICKS, MAX_TICKS]. -/
abbrev State.FramePre (s : State) : Prop := s.Quiescent ∧ validInterval s.cfg s.tcnt = false

/-- What a run is observed through (R12): the emitted words and events, four registers, and the samples below COUNT. -/
structure Observation where
  act : List ActWord
  diag : List DiagEvent
  capstat : BitVec 2
  count : BitVec 9
  volume : Volume
  mute : Bool
  samples : List Ticks
deriving DecidableEq, Repr

/-- The observation of a state (R12). -/
def State.observe (s : State) : Observation where
  act := s.act
  diag := s.diag
  capstat := s.capstat
  count := s.count
  volume := s.volume
  mute := s.mute
  samples := s.frame

/-- Two states that differ at most in SAMPLE entries at an index not below COUNT, which "are not part of the frame" (R27). -/
def State.SameButStale (s t : State) : Prop := t = { s with sample := t.sample } ∧ t.frame = s.frame

/-- The same state under another EDGE_POLARITY and TICK_PERIOD. -/
def State.withUnobservable (p : EdgePolarity) (d : Nat) (s : State) : State :=
  { s with cfg := { s.cfg with edgePolarity := p, tickPeriod := d } }

/-- `n` steps, stopping at the first refusal. -/
def State.run (n : Nat) (s : State) : Host.Outcome State Fault Refusal := Host.Core.run Sys2Proof.core n s

/-- A word that can start a step: OP 0x0 to 0x3 with RSV = 0 (R61). -/
abbrev standaloneWord (w : Byte) : Prop := (decodeEv w).standalone = true

/-- A schedule: which EV word comes at each step. -/
abbrev Schedule := Nat → Byte

/-- Weak fairness (D21, R183): TICK and LOOP each occur infinitely often. EDGE is under no fairness. -/
def Schedule.Fair (σ : Schedule) : Prop :=
  (∀ n, ∃ m, n ≤ m ∧ σ m = 0x01#8) ∧ (∀ n, ∃ m, n ≤ m ∧ σ m = 0x03#8)

/-- `s` with the first `n` words of a schedule pending. -/
def State.follow (σ : Schedule) (n : Nat) (s : State) : State := { s with script := (List.range n).map σ }

end Sys2Proof.Machine
end

