-- ==== Sys2Proof/Certificates/Slice0/Obligations.lean ====
section
/-! DEFINITION. The statements about the model, each a Prop, with the rule of spec/ it rests on. `exec i s = .next { s with … }`
says at once that the operation completes, what it writes, and that every other field of State is unchanged. -/

open Sys2Proof Sys2Proof.Machine

/-! ## Encoding and the step -/

/-- Words written out from R61's and R29's tables decode to the operations they stand for. `decodeTableWord` reads the five open
codes from VC, the model's choice of log entry 1. The EV clauses and the VOL_UP clause do not depend on it: that 0x27D859A6 is
QUIET and that 0xF50A59A7 is NONE hold under VC (R14, vector V54), not under every configuration. -/
def Obligations.TableWordsDecodeToTheirRows : Prop :=
  decodeTableWord 8 0b00000000 = some .reset ∧ decodeTableWord 8 0b00000001 = some .tick ∧
  decodeTableWord 8 0b00000010 = some .edge ∧ decodeTableWord 8 0b00000011 = some .loop ∧
  decodeTableWord 8 0b00001011 = some .arm ∧ decodeTableWord 8 0b00001101 = some .decode ∧
  decodeTableWord 8 0b00000101 = some (.reservedEv 0b00000101#8) ∧
  decodeTableWord 8 0b00010001 = some (.reservedEv 0b00010001#8) ∧
  decodeTableWord 32 0xF50A59A6 = some .volUp ∧ decodeTableWord 32 0x27D859A6 = some .quiet ∧
  decodeTableWord 32 0xF50A59A7 = some (.noneCmd 0xF50A59A7#32)

/-- Decoding what the encoder writes gives the operation back, for every row, operand and configuration. -/
def Obligations.DecodeOfEncodeIsTheInstruction : Prop :=
  ∀ (c : Config) (i : Instr), i.wf c = true → decode c (encode c i) = .ok i

/-- What decodes is well formed, and the encoder writes the same bytes again: no word has two meanings and none is lost. -/
def Obligations.EncodeOfDecodeIsTheBytes : Prop :=
  ∀ (c : Config) (bytes : List Byte) (i : Instr), decode c bytes = .ok i → i.wf c = true ∧ encode c i = bytes

/-- When the next pending word decodes to an operation that can start a step, the step is that operation's meaning after the word
is taken. With no word pending it is the meaning of one of the four (the model's choice of a free order, log entry 4). -/
def Obligations.StepRunsTheDecodedOperation : Prop :=
  ∀ s : State,
    (∀ w rest i, s.script = w :: rest → decode s.cfg [w] = .ok i → i.standalone = true →
      step s = exec i { s with script := rest }) ∧
    (s.script = [] → ∃ i : Instr, (i = .reset ∨ i = .tick ∨ i = .edge ∨ i = .loop) ∧
      step s = exec i { s with drawn := s.drawn + 1 })

/-- R68 (a): an EV word with OP 0x4 to 0x7, or with RSV ≠ 0, is RESERVED_EV, whose meaning refuses it, and so does the step. -/
def Obligations.ReservedWordsAreRefused : Prop :=
  ∀ (s : State) (w : Byte), (16 ≤ w.toNat ∨ (4 ≤ w.toNat ∧ w.toNat ≤ 7)) →
    decodeEv w = .reservedEv w ∧ exec (.reservedEv w) s = .refused (.reservedWord w) ∧
    ∀ rest, s.script = w :: rest → step s = .refused (.reservedWord w)

/-- R68 (b): an EV word with OP 0x8 to 0xF issued as a step of its own is refused. -/
def Obligations.InternalOperationsAloneAreRefused : Prop :=
  ∀ (s : State) (w : Byte) (rest : List Byte), 8 ≤ w.toNat → w.toNat ≤ 15 → s.script = w :: rest →
    step s = .refused (.internalOp w)

/-! ## Reset -/

/-- RESET from any state (R170): the reset values, TCNT at the drawn value (any 16-bit value), the configuration kept, nothing
emitted. SAMPLE is unspecified, so nothing is said of it. -/
def Obligations.ResetGivesTheResetValues : Prop :=
  ∀ s : State, ∃ t : State, exec .reset s = .next t ∧ t.lph = .init ∧ t.capstat = 0b00#2 ∧ t.count = 0#9 ∧
    t.volume = s.cfg.volDefault ∧ t.mute = true ∧ t.decoded = none ∧ t.cfg = s.cfg ∧ t.act = s.act ∧ t.diag = s.diag ∧
    t.script = s.script ∧ (∀ (d : Ticks) (rest : List Ticks), s.draws = d :: rest → t.tcnt = d ∧ t.draws = rest)

/-- The state after a reset meets the invariant, for every configuration R8 allows, every draw of TCNT and every buffer contents;
and `State.reset` is such a state (of the model's choices, log entries 1 and 2). -/
def Obligations.ResetMeetsTheInvariant : Prop :=
  (∀ (c : Config) (tcnt : Ticks) (sample : Vector Ticks 256), c.wf → (State.resetWith c tcnt sample).Inv) ∧ State.reset.Inv

/-! ## Capture -/

/-- TICK (R80) in every legal state: TCNT counts modulo 2^16; CAPSTAT becomes FRAME_READY exactly when CAPEN = 1, TCNT was
MAX_TICKS and COUNT ≥ 1; nothing else changes. -/
def Obligations.TickCountsAndClosesTheFrame : Prop :=
  ∀ s : State, s.illegal = none → ∃ t : State, exec .tick s = .next t ∧
    t = { s with tcnt := t.tcnt, capstat := t.capstat } ∧
    t.tcnt.toNat = (s.tcnt.toNat + 1) % 65536 ∧
    (s.capstat[0] = true ∧ s.tcnt = s.cfg.maxTicks ∧ 1 ≤ s.count.toNat → t.capstat = 0b10#2) ∧
    (¬ (s.capstat[0] = true ∧ s.tcnt = s.cfg.maxTicks ∧ 1 ≤ s.count.toNat) → t.capstat = s.capstat)

/-- TIMEOUT (R84, R85): with COUNT ≥ 1 CAPEN is cleared and FRDY set together; with COUNT = 0 nothing changes. -/
def Obligations.TimeoutFreezesANonemptyFrame : Prop :=
  ∀ s : State, exec .timeout s = .next (if 1 ≤ s.count.toNat then { s with capstat := 0b10#2 } else s)

/-- EDGE (R82) in every legal state. With CAPEN = 0 it has no effect. Otherwise TCNT becomes 0, and an interval in
[MIN_TICKS, MAX_TICKS] is appended if COUNT < 256; any other changes nothing else. -/
def Obligations.EdgeMeasuresAndAppends : Prop :=
  ∀ s : State, s.illegal = none →
    (s.capstat[0] = false → exec .edge s = .next s) ∧
    (s.capstat[0] = true → (s.tcnt < s.cfg.minTicks ∨ s.cfg.maxTicks < s.tcnt ∨ s.count.toNat = 256) →
      exec .edge s = .next { s with tcnt := 0#16 }) ∧
    (s.capstat[0] = true → s.cfg.minTicks ≤ s.tcnt → s.tcnt ≤ s.cfg.maxTicks → s.count.toNat < 256 →
      ∃ t : State, exec .edge s = .next t ∧ t = { s with tcnt := 0#16, count := t.count, sample := t.sample } ∧
        t.count.toNat = s.count.toNat + 1 ∧ t.memRead s.count.toNat = some s.tcnt ∧
        ∀ j, j ≠ s.count.toNat → t.memRead j = s.memRead j)

/-- NOISE (R141, status 1) is exactly an enabled EDGE whose interval is out of range; it only resets TCNT. -/
def Obligations.NoiseEdgeOnlyResetsTheCounter : Prop :=
  Status.noise.number = 1 ∧
  ∀ s : State, s.illegal = none →
    (s.edgeStatus = some .noise ↔ s.capstat[0] = true ∧ (s.tcnt < s.cfg.minTicks ∨ s.cfg.maxTicks < s.tcnt)) ∧
    (s.edgeStatus = some .noise → exec .edge s = .next { s with tcnt := 0#16 })

/-- OVERFLOW (R145, status 5) is exactly an enabled EDGE whose interval is in range while COUNT = 256; the sample is dropped and
TCNT reset, and a full frame is then closed by the timeout like any other. -/
def Obligations.OverflowEdgeDropsTheSample : Prop :=
  Status.overflow.number = 5 ∧
  ∀ s : State, s.illegal = none →
    (s.edgeStatus = some .overflow ↔
      s.capstat[0] = true ∧ s.cfg.minTicks ≤ s.tcnt ∧ s.tcnt ≤ s.cfg.maxTicks ∧ s.count.toNat = 256) ∧
    (s.edgeStatus = some .overflow → exec .edge s = .next { s with tcnt := 0#16 }) ∧
    (s.capstat[0] = true → s.count.toNat = 256 → s.tcnt = s.cfg.maxTicks →
      exec .tick s = .next { s with tcnt := s.tcnt + 1#16, capstat := 0b10#2 })

/-- ARM (R86) from any state: COUNT = 0 and ARMED; SAMPLE, TCNT and all else stay. From ARMED with COUNT = 0 it changes nothing. -/
def Obligations.ArmOpensAnEmptyBuffer : Prop :=
  ∀ s : State, exec .arm s = .next { s with count := 0#9, capstat := 0b01#2 } ∧
    (s.capstat = 0b01#2 → s.count = 0#9 → exec .arm s = .next s)

/-- While CAPEN = 0 (NOT_ARMED or FRAME_READY), any sequence of EDGE and TICK steps only advances TCNT (R171, R175): no event is
held, and the buffer, COUNT and CAPSTAT stay. -/
def Obligations.DisabledCaptureOnlyCounts : Prop :=
  ∀ (words : List Byte) (s : State) (rest : List Byte), s.illegal = none → s.capstat ≠ 0b01#2 →
    (∀ w ∈ words, w = 0x01#8 ∨ w = 0x02#8) → s.script = words ++ rest →
    s.run words.length =
      .next { s with script := rest, tcnt := s.tcnt + BitVec.ofNat 16 (words.count 0x01#8) }

/-- R88, of a run of TICKs with no LOOP step between them: an ARMED frame of at least one sample closes at the first TICK after
which MAX_TICKS + 1 TICKs have passed with no EDGE, not before; and every enabled EDGE restarts the count and does not close the frame. -/
def Obligations.FrameClosesAfterTheWindow : Prop :=
  (∀ s : State, s.illegal = none → s.cfg.wf → s.capstat = 0b01#2 → 1 ≤ s.count.toNat → s.tcnt = 0#16 →
    (∀ k rest, k ≤ s.cfg.maxTicks.toNat → s.script = advanceWords k ++ rest →
      s.run k = .next { s with script := rest, tcnt := BitVec.ofNat 16 k }) ∧
    (∀ rest, s.script = advanceWords (s.cfg.maxTicks.toNat + 1) ++ rest →
      s.run (s.cfg.maxTicks.toNat + 1) =
        .next { s with script := rest, tcnt := s.cfg.maxTicks + 1#16, capstat := 0b10#2 })) ∧
  (∀ s : State, s.illegal = none → s.capstat = 0b01#2 →
    ∃ t : State, exec .edge s = .next t ∧ t.tcnt = 0#16 ∧ t.capstat = 0b01#2)

/-- R179: EDGEs at most MAX_TICKS apart keep the capture ARMED, whatever their number and whether or not they are noise, and the
samples recorded before them stay. -/
def Obligations.CloseEdgesKeepTheFrameOpen : Prop :=
  ∀ (gaps : List Nat) (s : State) (rest : List Byte), s.illegal = none → s.cfg.wf → s.capstat = 0b01#2 → s.tcnt = 0#16 →
    (∀ g ∈ gaps, g ≤ s.cfg.maxTicks.toNat) → s.script = pulsesWords gaps ++ rest →
    ∃ t : State, s.run (pulsesWords gaps).length = .next t ∧ t.capstat = 0b01#2 ∧ t.tcnt = 0#16 ∧ s.count ≤ t.count ∧
      (∀ i, i < s.count.toNat → t.memRead i = s.memRead i) ∧ t.script = rest

/-- R147: at the boundary an EDGE and the timeout TICK may come in either order, and the two orders differ as the rule says. -/
def Obligations.EdgeAndTimeoutRace : Prop :=
  ∀ (s : State) (rest : List Byte), s.illegal = none → s.cfg.wf → s.capstat = 0b01#2 → 1 ≤ s.count.toNat →
    s.count.toNat < 256 → s.tcnt = s.cfg.maxTicks →
    (s.script = 0x02#8 :: 0x01#8 :: rest →
      ∃ t : State, s.run 2 = .next t ∧ t.capstat = 0b01#2 ∧ t.count.toNat = s.count.toNat + 1 ∧ t.tcnt = 1#16 ∧
        t.memRead s.count.toNat = some s.cfg.maxTicks) ∧
    (s.script = 0x01#8 :: 0x02#8 :: rest →
      s.run 2 = .next { s with script := rest, capstat := 0b10#2, tcnt := s.cfg.maxTicks + 1#16 })

/-! ## Decode -/

/-- DECODE (R90, R92): absent when COUNT < 32; otherwise bit k of CODE is 1 exactly when sample k exceeds IR_REF = 3000. It writes
CODE and CODE_VALID and no other state. -/
def Obligations.DecodeComparesTheFirst32Samples : Prop :=
  ∀ s : State, ∃ d : Option Code, exec .decode s = .next { s with decoded := d } ∧
    (s.count.toNat < 32 → d = none) ∧
    (32 ≤ s.count.toNat → ∃ code : Code, d = some code ∧
      ∀ k, k < 32 → ∃ v : Ticks, s.memRead k = some v ∧ (code.getLsbD k = true ↔ 3000 < v.toNat))

/-- R91: for COUNT ≥ 32 the decoded code always exists, and equal first 32 samples give equal codes, whatever the rest of the two
states. -/
def Obligations.DecodeDependsOnTheFirst32SamplesOnly : Prop :=
  ∀ s t : State, 32 ≤ s.count.toNat → 32 ≤ t.count.toNat → (∀ k, k < 32 → s.memRead k = t.memRead k) →
    ∃ code : Code, exec .decode s = .next { s with decoded := some code } ∧
      exec .decode t = .next { t with decoded := some code }

/-! ## Lookup and the commands -/

/-- R101: the first equal TABLE entry, in the order 0 to 6, gives the command of that number; a code equal to none gives NONE (7). -/
def Obligations.LookupIsFirstMatch : Prop :=
  ∀ (c : Config) (code : Code),
    (∀ j, c.tableEntry j = some code → (∀ i, i < j → c.tableEntry i ≠ some code) → (c.lookup code).number.toNat = j) ∧
    ((∀ j, c.tableEntry j ≠ some code) → c.lookup code = .noneCmd ∧ (c.lookup code).number = 7#3)

/-- R113: under `disjoint(TABLE)` every one of the seven commands is reached by its own entry. -/
def Obligations.DisjointTableReachesEveryCommand : Prop :=
  ∀ c : Config, c.disjoint → ∀ j, j < 7 → ∃ code : Code, c.tableEntry j = some code ∧ (c.lookup code).number.toNat = j

/-- R29: the two entries the source fixes stand at their places under every configuration, and no step changes the table. -/
def Obligations.CommandTableIsConstant : Prop :=
  (∀ c : Config, c.table =
    [0xF50A59A6#32, c.codeVolDown, c.codeMute, c.codeLoud, 0x27D859A6#32, c.codePowerOn, c.codePowerOff]) ∧
  ∀ s t : State, step s = .next t → t.cfg = s.cfg

/-- VOL_UP (R103): muted, it only unmutes; unmuted, VOLUME becomes min(VOLUME + 1, 255). Its code is 0xF50A59A6 in every
configuration, and DISPATCH of it ends with ACTUATE. -/
def Obligations.VolUpUnmutesOrRaises : Prop :=
  ∀ s : State, ∃ t : State, exec .volUp s = .next t ∧
    (s.mute = true → t = { s with mute := false }) ∧
    (s.mute = false → t = { s with volume := t.volume } ∧ t.volume.toNat = min (s.volume.toNat + 1) 255) ∧
    s.cfg.lookup 0xF50A59A6#32 = .volUp ∧
    (s.decoded = some 0xF50A59A6#32 → exec .dispatch s = exec .actuate t)

/-- VOL_DOWN (R104): muted, it only unmutes; unmuted, VOLUME becomes max(VOLUME - 1, 0). DISPATCH of it ends with ACTUATE. -/
def Obligations.VolDownUnmutesOrLowers : Prop :=
  ∀ s : State, ∃ t : State, exec .volDown s = .next t ∧
    (s.mute = true → t = { s with mute := false }) ∧
    (s.mute = false → t = { s with volume := t.volume } ∧ (t.volume.toNat : Int) = max ((s.volume.toNat : Int) - 1) 0) ∧
    (∀ code, s.decoded = some code → s.cfg.lookup code = .volDown → exec .dispatch s = exec .actuate t)

/-- MUTE (R105) sets MUTE, whatever it was, and preserves VOLUME. DISPATCH of it ends with ACTUATE. -/
def Obligations.MuteSetsTheFlagAndKeepsVolume : Prop :=
  ∀ s : State, exec .mute s = .next { s with mute := true } ∧
    (∀ code, s.decoded = some code → s.cfg.lookup code = .mute →
      exec .dispatch s = exec .actuate { s with mute := true })

/-- LOUD (R106) and QUIET (R107): unmuted at the preset, whatever VOLUME and MUTE were. DISPATCH of either ends with ACTUATE. -/
def Obligations.PresetsForceVolumeAndUnmute : Prop :=
  ∀ s : State,
    exec .loud s = .next { s with mute := false, volume := s.cfg.volLoud } ∧
    exec .quiet s = .next { s with mute := false, volume := s.cfg.volQuiet } ∧
    (∀ code, s.decoded = some code → s.cfg.lookup code = .loud →
      exec .dispatch s = exec .actuate { s with mute := false, volume := s.cfg.volLoud }) ∧
    (∀ code, s.decoded = some code → s.cfg.lookup code = .quiet →
      exec .dispatch s = exec .actuate { s with mute := false, volume := s.cfg.volQuiet })

/-- POWER_ON (R108) and POWER_OFF (R109): reported on DIAG as unsupported, no state change. DISPATCH of either ends with ACTUATE. -/
def Obligations.PowerCommandsOnlyReport : Prop :=
  ∀ s : State,
    exec .powerOn s = .next { s with diag := s.diag ++ [.unsupported .powerOn] } ∧
    exec .powerOff s = .next { s with diag := s.diag ++ [.unsupported .powerOff] } ∧
    (∀ code, s.decoded = some code → s.cfg.lookup code = .powerOn →
      exec .dispatch s = exec .actuate { s with diag := s.diag ++ [.unsupported .powerOn] }) ∧
    (∀ code, s.decoded = some code → s.cfg.lookup code = .powerOff →
      exec .dispatch s = exec .actuate { s with diag := s.diag ++ [.unsupported .powerOff] })

/-- NONE (R110): the code is reported on DIAG, and DISPATCH of it does nothing else: no state change and no actuator call. -/
def Obligations.UnrecognizedCodeOnlyReports : Prop :=
  ∀ (s : State) (code : Code),
    exec (.noneCmd code) s = .next { s with diag := s.diag ++ [.unrecognized code] } ∧
    (s.decoded = some code → (∀ j, s.cfg.tableEntry j ≠ some code) →
      exec .dispatch s = .next { s with diag := s.diag ++ [.unrecognized code] })

/-- R111: DISPATCH of every recognized code invokes the actuator once, with the profile it leaves; NONE never does. -/
def Obligations.EveryRecognizedCodeRefreshesTheActuator : Prop :=
  ∀ (s : State) (code : Code), s.decoded = some code → ∃ t : State, exec .dispatch s = .next t ∧
    (s.cfg.lookup code ≠ .noneCmd → t.act = s.act ++ [if t.mute then 0#16 else t.volume ++ t.volume]) ∧
    (s.cfg.lookup code = .noneCmd → t.act = s.act)

/-- R114: DISPATCH answers a next state from every state, and writes only VOLUME and MUTE and emits only on ACT and DIAG (and
takes draws); with no decoded code it is not performed (D34). -/
def Obligations.DispatchWritesOnlyTheGainProfile : Prop :=
  ∀ s : State, ∃ t : State, exec .dispatch s = .next t ∧
    t = { s with volume := t.volume, mute := t.mute, act := t.act, diag := t.diag, draws := t.draws, drawn := t.drawn } ∧
    (s.decoded = none → t = s)

/-- R115: muted, the first VOL_UP or VOL_DOWN only unmutes, and a second press of the same button moves VOLUME by one step. So two
presses of VOL_UP from (v, muted) with v < 255 give (v + 1, unmuted) and emit v·0x0101 and then (v+1)·0x0101. -/
def Obligations.FirstPressAfterMuteOnlyUnmutes : Prop :=
  ∀ (s : State) (code : Code), s.mute = true → s.decoded = some code →
    (s.cfg.lookup code = .volUp ∨ s.cfg.lookup code = .volDown) →
    ∃ t u : State, exec .dispatch s = .next t ∧ t.volume = s.volume ∧ t.mute = false ∧
      exec .dispatch t = .next u ∧ u.mute = false ∧
      u.act = s.act ++
        [BitVec.ofNat 16 (s.volume.toNat * 0x0101), BitVec.ofNat 16 (u.volume.toNat * 0x0101)] ∧
      (s.cfg.lookup code = .volUp → s.volume.toNat < 255 → u.volume.toNat = s.volume.toNat + 1) ∧
      (s.cfg.lookup code = .volDown → 0 < s.volume.toNat → u.volume.toNat + 1 = s.volume.toNat)

/-- ACTUATE (R112, R63): VOLUME in both halves of the word when unmuted, 0 when muted; the word returned is any value, and goes to
DIAG and nowhere else. -/
def Obligations.ActuateSendsTheProfile : Prop :=
  ∀ s : State, ∃ (w r : ActWord) (t : State), exec .actuate s = .next t ∧
    t = { s with act := s.act ++ [w], diag := s.diag ++ [.actResult w r], draws := t.draws, drawn := t.drawn } ∧
    (s.mute = true → w = 0x0000#16) ∧
    (s.mute = false → w = s.volume ++ s.volume ∧ w.toNat = s.volume.toNat * 0x0101) ∧
    (∀ d rest, s.draws = d :: rest → r = d ∧ t.draws = rest)

/-! ## The control loop -/

/-- LOOP (R121) in every legal state is one of the three internal actions, chosen by LPH and CAPSTAT, and answers a next state. -/
def Obligations.LoopSelectsOneAction : Prop :=
  ∀ s : State, s.illegal = none →
    (s.lph = .init → exec .loop s = exec .loopInit s) ∧
    (s.lph = .run → s.capstat = 0b10#2 → exec .loop s = exec .serviceFrame s) ∧
    (s.lph = .run → s.capstat ≠ 0b10#2 → exec .loop s = exec .poll s) ∧
    ∃ t : State, exec .loop s = .next t

/-- LOOP (R121) refuses a state with CAPSTAT = 11 or COUNT > 256, or with LPH = RUN and CAPSTAT = NOT_ARMED. -/
def Obligations.LoopRefusesUnreachableStates : Prop :=
  ∀ s : State, (s.capstat = 0b11#2 ∨ 256 < s.count.toNat ∨ (s.lph = .run ∧ s.capstat = 0b00#2)) →
    ∃ why : IllegalState, exec .loop s = .refused (.illegalState why)

/-- LOOP_INIT (R122): ARM, then LPH = RUN. It is the only step that leaves LPH = INIT, and until it runs every EDGE and TIMEOUT is
ignored. -/
def Obligations.LoopInitArmsCapture : Prop :=
  (∀ s : State, exec .loopInit s = .next { s with count := 0#9, capstat := 0b01#2, lph := .run }) ∧
  (∀ s t : State, s.lph = .init → step s = .next t → t.lph = .run →
    decodeEv s.nextWord = .loop ∧ exec .loopInit s.afterFetch = .next t) ∧
  ∀ s : State, s.illegal = none → s.lph = .init →
    exec .edge s = .next s ∧ exec .tick s = .next { s with tcnt := s.tcnt + 1#16 }

/-- POLL (R123) changes nothing. -/
def Obligations.PollChangesNothing : Prop :=
  ∀ s : State, exec .poll s = .next s

/-- SERVICE_FRAME (R124) on a ready frame: DIAG SAMPLES of every sample below COUNT; then, if DECODE gives a code, DIAG CODE and
its DISPATCH; then ARM, unconditionally. Nothing else changes. -/
def Obligations.ServiceFrameConsumesTheFrame : Prop :=
  ∀ s : State, s.lph = .run → s.capstat = 0b10#2 → 1 ≤ s.count.toNat → s.count.toNat ≤ 256 →
    ∃ samples : List Ticks, samples.length = s.count.toNat ∧
      (∀ i, i < s.count.toNat → samples[i]? = s.memRead i) ∧
      (s.count.toNat < 32 → exec .serviceFrame s = .next
        { s with
          diag := s.diag ++ [.samples s.count.toNat samples], decoded := none, count := 0#9, capstat := 0b01#2 }) ∧
      (32 ≤ s.count.toNat → ∃ (code : Code) (t : State),
        exec .decode s = .next { s with decoded := some code } ∧
        exec .dispatch
          { s with diag := s.diag ++ [.samples s.count.toNat samples, .code code], decoded := some code } = .next t ∧
        exec .serviceFrame s = .next { t with decoded := none, count := 0#9, capstat := 0b01#2 })

/-- R142 to R144: what SERVICE_FRAME reports. SHORT (2) is a frame of fewer than 32 samples; UNRECOGNIZED (3) a code with no
table match; UNSUPPORTED (4) a code of a power command. A short or unrecognized frame leaves the Gain Profile and ACT alone. -/
def Obligations.FrameStatusTellsTheOutcome : Prop :=
  Status.short.number = 2 ∧ Status.unrecognized.number = 3 ∧ Status.unsupported.number = 4 ∧
  ∀ s : State, s.count.toNat ≤ 256 → ∃ t : State, exec .serviceFrame s = .next t ∧
    (s.frameStatus = some .short ↔ s.count.toNat < 32) ∧
    (s.frameStatus = some .short ∨ s.frameStatus = some .unrecognized →
      t.volume = s.volume ∧ t.mute = s.mute ∧ t.act = s.act) ∧
    (s.frameStatus = some .unsupported →
      t.volume = s.volume ∧ t.mute = s.mute ∧ t.act = s.act ++ [if s.mute then 0#16 else s.volume ++ s.volume])

/-- R44: an index at or above 256 has no sample, and a SERVICE_FRAME that would read one is refused. -/
def Obligations.IndexAboveCapacityIsRefused : Prop :=
  ∀ s : State, (∀ i, s.memRead i = none ↔ 256 ≤ i) ∧
    (256 < s.count.toNat → exec .serviceFrame s = .refused (.sampleIndex 256))

/-- R36, D32: TICK, EDGE and LOOP refuse a state that violates one of the first four invariants, and no other state. -/
def Obligations.IllegalStatesAreRefused : Prop :=
  ∀ s : State,
    (s.illegal = none ↔ s.count.toNat ≤ 256 ∧ s.capstat ≠ 0b11#2 ∧ (s.capstat = 0b00#2 ↔ s.lph = .init) ∧
      (s.capstat = 0b10#2 → 1 ≤ s.count.toNat)) ∧
    (∀ why, s.illegal = some why → ∀ i : Instr, i = .tick ∨ i = .edge ∨ i = .loop →
      exec i s = .refused (.illegalState why))

/-- R127: after every SERVICE_FRAME the block is ARMED with COUNT = 0, whatever the frame was; the old samples and TCNT stay. -/
def Obligations.ServiceAlwaysRecovers : Prop :=
  ∀ (s : State) (rest : List Byte), s.illegal = none → s.capstat = 0b10#2 → s.script = 0x03#8 :: rest →
    ∃ t : State, step s = .next t ∧ t.capstat = 0b01#2 ∧ t.count = 0#9 ∧ t.lph = .run ∧ t.sample = s.sample ∧
      t.tcnt = s.tcnt ∧ t.script = rest

/-! ## Rules of the whole machine -/

/-- R36, R27, R31: every step keeps the invariant. -/
def Obligations.StepKeepsTheInvariant : Prop :=
  ∀ s t : State, s.Inv → step s = .next t → t.Inv

/-- A schedule of standalone words is never refused: from every state that meets the invariant, any number of steps answers a
next state that meets it (R128: the block has no halt state). -/
def Obligations.StandaloneSchedulesNeverStop : Prop :=
  ∀ (n : Nat) (s : State), s.Inv → (∀ w ∈ s.script, standaloneWord w) → ∃ t : State, s.run n = .next t ∧ t.Inv

/-- R24: while ARMED, with LPH = RUN, LOOP writes neither CAPSTAT, COUNT nor SAMPLE; while not ARMED, TICK and EDGE write none of
them. -/
def Obligations.CaptureStateHasASingleWriter : Prop :=
  ∀ (i : Instr) (s t : State), exec i s = .next t →
    (i = .loop ∧ s.lph = .run ∧ s.capstat = 0b01#2) ∨ ((i = .tick ∨ i = .edge) ∧ s.capstat ≠ 0b01#2) →
    t.capstat = s.capstat ∧ t.count = s.count ∧ t.sample = s.sample

/-- R89: EDGE and TIMEOUT, and the TICK that holds it, write only TCNT, COUNT, SAMPLE[COUNT] and CAPSTAT: never the Gain Profile,
ACT or DIAG. -/
def Obligations.HandlerWritesOnlyTheCaptureState : Prop :=
  ∀ (i : Instr) (s t : State), i = .edge ∨ i = .timeout ∨ i = .tick → exec i s = .next t →
    t = { s with tcnt := t.tcnt, count := t.count, sample := t.sample, capstat := t.capstat } ∧
    ∀ j, j ≠ s.count.toNat → t.memRead j = s.memRead j

/-- R21: LPH changes only by LOOP, from INIT to RUN, and by RESET, to INIT. R28: TCNT changes only by TICK, by an enabled EDGE, to
0, and by RESET. -/
def Obligations.PhaseAndTimerChangeOnlyAsNamed : Prop :=
  ∀ s t : State, step s = .next t →
    (t.lph = s.lph ∨ (decodeEv s.nextWord = .reset ∧ t.lph = .init) ∨
      (decodeEv s.nextWord = .loop ∧ s.lph = .init ∧ t.lph = .run)) ∧
    (t.tcnt = s.tcnt ∨ decodeEv s.nextWord = .reset ∨ (decodeEv s.nextWord = .tick ∧ t.tcnt = s.tcnt + 1#16) ∨
      (decodeEv s.nextWord = .edge ∧ s.capstat[0] = true ∧ t.tcnt = 0#16))

/-- R30, R114: VOLUME or MUTE changes only by RESET, or by a LOOP that services a ready frame of at least 32 samples. -/
def Obligations.GainProfileChangesOnlyByDispatch : Prop :=
  ∀ s t : State, step s = .next t → t.volume ≠ s.volume ∨ t.mute ≠ s.mute →
    decodeEv s.nextWord = .reset ∨
    (decodeEv s.nextWord = .loop ∧ s.lph = .run ∧ s.capstat = 0b10#2 ∧ 32 ≤ s.count.toNat)

/-- R27: entries at an index not below COUNT are never observed. Two states that differ only there take the same steps, ending in
states that differ only there, and no observation tells them apart; so RESET's unspecified contents are never observed. -/
def Obligations.StaleSamplesAreNeverObserved : Prop :=
  ∀ (n : Nat) (s t : State), State.SameButStale s t →
    match s.run n, t.run n with
    | .next s', .next t' => State.SameButStale s' t' ∧ s'.observe = t'.observe
    | .refused r, .refused r' => r = r'
    | _, _ => False

/-- R7, D28, D29: no step depends on EDGE_POLARITY or TICK_PERIOD. -/
def Obligations.PolarityAndPeriodAreUnobservable : Prop :=
  ∀ (p : EdgePolarity) (d : Nat) (s t : State), step s = .next t →
    step (s.withUnobservable p d) = .next (t.withUnobservable p d) ∧ (t.withUnobservable p d).observe = t.observe

/-- R125: while CAPEN = 0, an EDGE or TICK commutes with each part of SERVICE_FRAME that comes before the ARM. -/
def Obligations.EventsCommuteWithServiceParts : Prop :=
  ∀ (e i : Instr) (s : State), e = .tick ∨ e = .edge → i = .decode ∨ i = .dispatch ∨ i = .actuate →
    s.illegal = none → s.capstat[0] = false →
    ∃ a b c : State, exec e s = .next a ∧ exec i a = .next b ∧ exec i s = .next c ∧ exec e c = .next b

/-! ## Scripts and liveness -/

/-- R73: from the precondition, a FRAME of n ≥ 1 in-range intervals runs to a quiescent point with TCNT = MAX_TICKS + 1, the
intervals in SAMPLE (the first 256 of them), and the Gain Profile and outputs that SERVICE_FRAME gives of that frame. The state
after it meets the precondition again, and so does the state after a reset with TCNT_RESET < MIN_TICKS and one LOOP. -/
def Obligations.FrameScriptServicesItsFrame : Prop :=
  (∀ (c : Config) (tcnt : Ticks) (sample : Vector Ticks 256), c.wf → tcnt < c.minTicks →
    ∃ t : State, exec .loop (State.resetWith c tcnt sample) = .next t ∧ t.FramePre) ∧
  ∀ (ts : List Nat) (s : State) (rest : List Byte), s.cfg.wf → s.FramePre → ts ≠ [] →
    (∀ x ∈ ts, s.cfg.minTicks.toNat ≤ x ∧ x ≤ s.cfg.maxTicks.toNat) → s.script = frameWords s.cfg ts ++ rest →
    ∃ u t : State, s.run (frameWords s.cfg ts).length = .next t ∧
      u = { s with
        capstat := 0b10#2, count := BitVec.ofNat 9 (min ts.length 256), sample := u.sample,
        tcnt := s.cfg.maxTicks + 1#16, script := rest } ∧
      (∀ i, i < min ts.length 256 → u.memRead i = ts[i]?.map (BitVec.ofNat 16)) ∧
      exec .serviceFrame u = .next t ∧
      t.Quiescent ∧ t.tcnt = s.cfg.maxTicks + 1#16 ∧ t.sample = u.sample ∧ t.FramePre

/-- R72, R73: a SEND of any code leaves the Gain Profile and emits the actuator words that DISPATCH of that code does. -/
def Obligations.SendDispatchesItsCode : Prop :=
  ∀ (p : BitTicks) (code : Code) (s : State) (rest : List Byte), s.cfg.wf → p.wf s.cfg → s.FramePre →
    s.script = (ScriptLine.send code).words s.cfg p ++ rest →
    ∃ t d : State, s.run ((ScriptLine.send code).words s.cfg p).length = .next t ∧
      exec .dispatch { s with decoded := some code } = .next d ∧
      t.volume = d.volume ∧ t.mute = d.mute ∧ t.act = d.act ∧ t.FramePre ∧ t.script = rest

/-- R183: under a fair schedule with no EDGE and no RESET, a frame that holds a sample is closed, and then serviced and re-armed. -/
def Obligations.FairSchedulesServiceTheFrame : Prop :=
  ∀ (σ : Schedule) (s : State), σ.Fair → (∀ n, σ n = 0x01#8 ∨ σ n = 0x03#8) → s.Inv → s.capstat = 0b01#2 →
    1 ≤ s.count.toNat →
    ∃ (n m : Nat) (t u : State), n < m ∧ (s.follow σ n).run n = .next t ∧ t.capstat = 0b10#2 ∧ t.count = s.count ∧
      t.sample = s.sample ∧ (s.follow σ m).run m = .next u ∧ u.capstat = 0b01#2 ∧ u.count = 0#9
end

