-- ==== Sys2Proof/Laws/Decode.lean ====
section
/-! SUPPORT. Laws of the code formats: the bits of a packed word, and bytes and code words as two forms of one thing (R62, R70). -/

namespace Sys2Proof

/-- Bit `k` of a packed word is `f k`. -/
theorem getLsbD_packBits (f : Nat → Bool) (n k : Nat) (h : k < n) : (packBits f n).getLsbD k = f k := by
  induction n with
  | zero => omega
  | succ n ih =>
    rw [packBits, BitVec.getLsbD_cons]
    by_cases hk : k = n
    · simp [hk]
    · rw [if_neg hk, ih (by omega)]

/-- A packed word depends only on the bits it holds. -/
theorem packBits_congr {f g : Nat → Bool} {n : Nat} (h : ∀ k, k < n → f k = g k) : packBits f n = packBits g n :=
  BitVec.eq_of_getLsbD_eq fun k hk => by rw [getLsbD_packBits f n k hk, getLsbD_packBits g n k hk, h k hk]

/-- NSAMP is 8 bits × NBYTES (R6). -/
theorem nsamp_eq : nsamp = byteBits * nbytes := rfl

/-- A code has NBYTES bytes. -/
@[simp] theorem length_codeBytes (code : Code) : (codeBytes code).length = nbytes := by simp [codeBytes]

/-- Byte `b` of a code is its bits `8·b` to `8·b + 7`. -/
theorem codeBytes_getD (code : Code) (b : Nat) (h : b < nbytes) :
    (codeBytes code).getD b 0#_ = code.extractLsb' (byteBits * b) byteBits := by
  simp [codeBytes, h]

/-- Bit `k` of the code of some bytes. -/
theorem getLsbD_codeOfBytes (bytes : List Byte) (k : Nat) (h : k < nsamp) :
    (codeOfBytes bytes).getLsbD k = (bytes.getD (k / byteBits) 0#_).getLsbD (k % byteBits) :=
  getLsbD_packBits _ _ _ h

/-- The code of a code's bytes is that code. -/
@[simp] theorem codeOfBytes_codeBytes (code : Code) : codeOfBytes (codeBytes code) = code := by
  refine BitVec.eq_of_getLsbD_eq fun k hk => ?_
  have h1 : k / byteBits < nbytes := by simp only [byteBits, nbytes, nsamp] at *; omega
  have h2 : k % byteBits < byteBits := Nat.mod_lt _ (by decide)
  rw [getLsbD_codeOfBytes _ _ hk, codeBytes_getD _ _ h1, BitVec.getLsbD_extractLsb', Nat.div_add_mod]
  simp [h2]

/-- The bytes of the code of NBYTES bytes are those bytes. -/
theorem codeBytes_codeOfBytes {bytes : List Byte} (h : bytes.length = nbytes) : codeBytes (codeOfBytes bytes) = bytes := by
  refine List.ext_getElem (by simp [h]) fun b h1 h2 => BitVec.eq_of_getLsbD_eq fun i hi => ?_
  have hb : b < nbytes := by simpa using h1
  have hk : byteBits * b + i < nsamp := by simp only [byteBits, nbytes, nsamp] at *; omega
  have hd : (byteBits * b + i) / byteBits = b := by simp only [byteBits] at *; omega
  have hm : (byteBits * b + i) % byteBits = i := by simp only [byteBits] at *; omega
  have hx : (codeBytes (codeOfBytes bytes))[b] = (codeOfBytes bytes).extractLsb' (byteBits * b) byteBits := by simp [codeBytes]
  refine (congrArg (·.getLsbD i) hx).trans ?_
  rw [BitVec.getLsbD_extractLsb', getLsbD_codeOfBytes _ _ hk, hd, hm]
  simp [hi, h2]

/-- The decoder reads a code's bytes as the command of that code (R67). -/
@[simp] theorem decode_codeBytes (c : Config) (code : Code) : decode c (codeBytes code) = .ok (decodeCode c code) := by
  rw [decode, if_pos (length_codeBytes code), codeOfBytes_codeBytes]
  intro word h
  have := congrArg List.length h
  simp at this

end Sys2Proof
end

