-- ==== Sys2Proof/Laws/State.lean ====
section
/-! SUPPORT. Laws of State: for each named write, one lemma per field, so that no later proof unfolds a record update. -/

namespace Sys2Proof.Machine

variable (s : State)

@[simp] theorem State.setLph_cfg (p : Lph) : (s.setLph p).cfg = s.cfg := rfl
@[simp] theorem State.setLph_lph (p : Lph) : (s.setLph p).lph = p := rfl
@[simp] theorem State.setLph_capstat (p : Lph) : (s.setLph p).capstat = s.capstat := rfl
@[simp] theorem State.setLph_count (p : Lph) : (s.setLph p).count = s.count := rfl
@[simp] theorem State.setLph_sample (p : Lph) : (s.setLph p).sample = s.sample := rfl
@[simp] theorem State.setLph_tcnt (p : Lph) : (s.setLph p).tcnt = s.tcnt := rfl
@[simp] theorem State.setLph_volume (p : Lph) : (s.setLph p).volume = s.volume := rfl
@[simp] theorem State.setLph_mute (p : Lph) : (s.setLph p).mute = s.mute := rfl
@[simp] theorem State.setLph_decoded (p : Lph) : (s.setLph p).decoded = s.decoded := rfl
@[simp] theorem State.setLph_act (p : Lph) : (s.setLph p).act = s.act := rfl
@[simp] theorem State.setLph_diag (p : Lph) : (s.setLph p).diag = s.diag := rfl
@[simp] theorem State.setLph_script (p : Lph) : (s.setLph p).script = s.script := rfl
@[simp] theorem State.setLph_draws (p : Lph) : (s.setLph p).draws = s.draws := rfl
@[simp] theorem State.setLph_drawn (p : Lph) : (s.setLph p).drawn = s.drawn := rfl

@[simp] theorem State.setCount_cfg (n : BitVec 9) : (s.setCount n).cfg = s.cfg := rfl
@[simp] theorem State.setCount_lph (n : BitVec 9) : (s.setCount n).lph = s.lph := rfl
@[simp] theorem State.setCount_capstat (n : BitVec 9) : (s.setCount n).capstat = s.capstat := rfl
@[simp] theorem State.setCount_count (n : BitVec 9) : (s.setCount n).count = n := rfl
@[simp] theorem State.setCount_sample (n : BitVec 9) : (s.setCount n).sample = s.sample := rfl
@[simp] theorem State.setCount_tcnt (n : BitVec 9) : (s.setCount n).tcnt = s.tcnt := rfl
@[simp] theorem State.setCount_volume (n : BitVec 9) : (s.setCount n).volume = s.volume := rfl
@[simp] theorem State.setCount_mute (n : BitVec 9) : (s.setCount n).mute = s.mute := rfl
@[simp] theorem State.setCount_decoded (n : BitVec 9) : (s.setCount n).decoded = s.decoded := rfl
@[simp] theorem State.setCount_act (n : BitVec 9) : (s.setCount n).act = s.act := rfl
@[simp] theorem State.setCount_diag (n : BitVec 9) : (s.setCount n).diag = s.diag := rfl
@[simp] theorem State.setCount_script (n : BitVec 9) : (s.setCount n).script = s.script := rfl
@[simp] theorem State.setCount_draws (n : BitVec 9) : (s.setCount n).draws = s.draws := rfl
@[simp] theorem State.setCount_drawn (n : BitVec 9) : (s.setCount n).drawn = s.drawn := rfl

@[simp] theorem State.setTcnt_cfg (t : Ticks) : (s.setTcnt t).cfg = s.cfg := rfl
@[simp] theorem State.setTcnt_lph (t : Ticks) : (s.setTcnt t).lph = s.lph := rfl
@[simp] theorem State.setTcnt_capstat (t : Ticks) : (s.setTcnt t).capstat = s.capstat := rfl
@[simp] theorem State.setTcnt_count (t : Ticks) : (s.setTcnt t).count = s.count := rfl
@[simp] theorem State.setTcnt_sample (t : Ticks) : (s.setTcnt t).sample = s.sample := rfl
@[simp] theorem State.setTcnt_tcnt (t : Ticks) : (s.setTcnt t).tcnt = t := rfl
@[simp] theorem State.setTcnt_volume (t : Ticks) : (s.setTcnt t).volume = s.volume := rfl
@[simp] theorem State.setTcnt_mute (t : Ticks) : (s.setTcnt t).mute = s.mute := rfl
@[simp] theorem State.setTcnt_decoded (t : Ticks) : (s.setTcnt t).decoded = s.decoded := rfl
@[simp] theorem State.setTcnt_act (t : Ticks) : (s.setTcnt t).act = s.act := rfl
@[simp] theorem State.setTcnt_diag (t : Ticks) : (s.setTcnt t).diag = s.diag := rfl
@[simp] theorem State.setTcnt_script (t : Ticks) : (s.setTcnt t).script = s.script := rfl
@[simp] theorem State.setTcnt_draws (t : Ticks) : (s.setTcnt t).draws = s.draws := rfl
@[simp] theorem State.setTcnt_drawn (t : Ticks) : (s.setTcnt t).drawn = s.drawn := rfl

@[simp] theorem State.setVolume_cfg (v : Volume) : (s.setVolume v).cfg = s.cfg := rfl
@[simp] theorem State.setVolume_lph (v : Volume) : (s.setVolume v).lph = s.lph := rfl
@[simp] theorem State.setVolume_capstat (v : Volume) : (s.setVolume v).capstat = s.capstat := rfl
@[simp] theorem State.setVolume_count (v : Volume) : (s.setVolume v).count = s.count := rfl
@[simp] theorem State.setVolume_sample (v : Volume) : (s.setVolume v).sample = s.sample := rfl
@[simp] theorem State.setVolume_tcnt (v : Volume) : (s.setVolume v).tcnt = s.tcnt := rfl
@[simp] theorem State.setVolume_volume (v : Volume) : (s.setVolume v).volume = v := rfl
@[simp] theorem State.setVolume_mute (v : Volume) : (s.setVolume v).mute = s.mute := rfl
@[simp] theorem State.setVolume_decoded (v : Volume) : (s.setVolume v).decoded = s.decoded := rfl
@[simp] theorem State.setVolume_act (v : Volume) : (s.setVolume v).act = s.act := rfl
@[simp] theorem State.setVolume_diag (v : Volume) : (s.setVolume v).diag = s.diag := rfl
@[simp] theorem State.setVolume_script (v : Volume) : (s.setVolume v).script = s.script := rfl
@[simp] theorem State.setVolume_draws (v : Volume) : (s.setVolume v).draws = s.draws := rfl
@[simp] theorem State.setVolume_drawn (v : Volume) : (s.setVolume v).drawn = s.drawn := rfl

@[simp] theorem State.setMute_cfg (b : Bool) : (s.setMute b).cfg = s.cfg := rfl
@[simp] theorem State.setMute_lph (b : Bool) : (s.setMute b).lph = s.lph := rfl
@[simp] theorem State.setMute_capstat (b : Bool) : (s.setMute b).capstat = s.capstat := rfl
@[simp] theorem State.setMute_count (b : Bool) : (s.setMute b).count = s.count := rfl
@[simp] theorem State.setMute_sample (b : Bool) : (s.setMute b).sample = s.sample := rfl
@[simp] theorem State.setMute_tcnt (b : Bool) : (s.setMute b).tcnt = s.tcnt := rfl
@[simp] theorem State.setMute_volume (b : Bool) : (s.setMute b).volume = s.volume := rfl
@[simp] theorem State.setMute_mute (b : Bool) : (s.setMute b).mute = b := rfl
@[simp] theorem State.setMute_decoded (b : Bool) : (s.setMute b).decoded = s.decoded := rfl
@[simp] theorem State.setMute_act (b : Bool) : (s.setMute b).act = s.act := rfl
@[simp] theorem State.setMute_diag (b : Bool) : (s.setMute b).diag = s.diag := rfl
@[simp] theorem State.setMute_script (b : Bool) : (s.setMute b).script = s.script := rfl
@[simp] theorem State.setMute_draws (b : Bool) : (s.setMute b).draws = s.draws := rfl
@[simp] theorem State.setMute_drawn (b : Bool) : (s.setMute b).drawn = s.drawn := rfl

@[simp] theorem State.setDecoded_cfg (c : Option Code) : (s.setDecoded c).cfg = s.cfg := rfl
@[simp] theorem State.setDecoded_lph (c : Option Code) : (s.setDecoded c).lph = s.lph := rfl
@[simp] theorem State.setDecoded_capstat (c : Option Code) : (s.setDecoded c).capstat = s.capstat := rfl
@[simp] theorem State.setDecoded_count (c : Option Code) : (s.setDecoded c).count = s.count := rfl
@[simp] theorem State.setDecoded_sample (c : Option Code) : (s.setDecoded c).sample = s.sample := rfl
@[simp] theorem State.setDecoded_tcnt (c : Option Code) : (s.setDecoded c).tcnt = s.tcnt := rfl
@[simp] theorem State.setDecoded_volume (c : Option Code) : (s.setDecoded c).volume = s.volume := rfl
@[simp] theorem State.setDecoded_mute (c : Option Code) : (s.setDecoded c).mute = s.mute := rfl
@[simp] theorem State.setDecoded_decoded (c : Option Code) : (s.setDecoded c).decoded = c := rfl
@[simp] theorem State.setDecoded_act (c : Option Code) : (s.setDecoded c).act = s.act := rfl
@[simp] theorem State.setDecoded_diag (c : Option Code) : (s.setDecoded c).diag = s.diag := rfl
@[simp] theorem State.setDecoded_script (c : Option Code) : (s.setDecoded c).script = s.script := rfl
@[simp] theorem State.setDecoded_draws (c : Option Code) : (s.setDecoded c).draws = s.draws := rfl
@[simp] theorem State.setDecoded_drawn (c : Option Code) : (s.setDecoded c).drawn = s.drawn := rfl

@[simp] theorem State.setCapen_cfg (b : Bool) : (s.setCapen b).cfg = s.cfg := rfl
@[simp] theorem State.setCapen_lph (b : Bool) : (s.setCapen b).lph = s.lph := rfl
@[simp] theorem State.setCapen_capstat (b : Bool) : (s.setCapen b).capstat = packCapstat s.frdy b := rfl
@[simp] theorem State.setCapen_count (b : Bool) : (s.setCapen b).count = s.count := rfl
@[simp] theorem State.setCapen_sample (b : Bool) : (s.setCapen b).sample = s.sample := rfl
@[simp] theorem State.setCapen_tcnt (b : Bool) : (s.setCapen b).tcnt = s.tcnt := rfl
@[simp] theorem State.setCapen_volume (b : Bool) : (s.setCapen b).volume = s.volume := rfl
@[simp] theorem State.setCapen_mute (b : Bool) : (s.setCapen b).mute = s.mute := rfl
@[simp] theorem State.setCapen_decoded (b : Bool) : (s.setCapen b).decoded = s.decoded := rfl
@[simp] theorem State.setCapen_act (b : Bool) : (s.setCapen b).act = s.act := rfl
@[simp] theorem State.setCapen_diag (b : Bool) : (s.setCapen b).diag = s.diag := rfl
@[simp] theorem State.setCapen_script (b : Bool) : (s.setCapen b).script = s.script := rfl
@[simp] theorem State.setCapen_draws (b : Bool) : (s.setCapen b).draws = s.draws := rfl
@[simp] theorem State.setCapen_drawn (b : Bool) : (s.setCapen b).drawn = s.drawn := rfl

@[simp] theorem State.setFrdy_cfg (b : Bool) : (s.setFrdy b).cfg = s.cfg := rfl
@[simp] theorem State.setFrdy_lph (b : Bool) : (s.setFrdy b).lph = s.lph := rfl
@[simp] theorem State.setFrdy_capstat (b : Bool) : (s.setFrdy b).capstat = packCapstat b s.capen := rfl
@[simp] theorem State.setFrdy_count (b : Bool) : (s.setFrdy b).count = s.count := rfl
@[simp] theorem State.setFrdy_sample (b : Bool) : (s.setFrdy b).sample = s.sample := rfl
@[simp] theorem State.setFrdy_tcnt (b : Bool) : (s.setFrdy b).tcnt = s.tcnt := rfl
@[simp] theorem State.setFrdy_volume (b : Bool) : (s.setFrdy b).volume = s.volume := rfl
@[simp] theorem State.setFrdy_mute (b : Bool) : (s.setFrdy b).mute = s.mute := rfl
@[simp] theorem State.setFrdy_decoded (b : Bool) : (s.setFrdy b).decoded = s.decoded := rfl
@[simp] theorem State.setFrdy_act (b : Bool) : (s.setFrdy b).act = s.act := rfl
@[simp] theorem State.setFrdy_diag (b : Bool) : (s.setFrdy b).diag = s.diag := rfl
@[simp] theorem State.setFrdy_script (b : Bool) : (s.setFrdy b).script = s.script := rfl
@[simp] theorem State.setFrdy_draws (b : Bool) : (s.setFrdy b).draws = s.draws := rfl
@[simp] theorem State.setFrdy_drawn (b : Bool) : (s.setFrdy b).drawn = s.drawn := rfl

@[simp] theorem State.memWrite_cfg (i : Nat) (v : Ticks) : (s.memWrite i v).cfg = s.cfg := rfl
@[simp] theorem State.memWrite_lph (i : Nat) (v : Ticks) : (s.memWrite i v).lph = s.lph := rfl
@[simp] theorem State.memWrite_capstat (i : Nat) (v : Ticks) : (s.memWrite i v).capstat = s.capstat := rfl
@[simp] theorem State.memWrite_count (i : Nat) (v : Ticks) : (s.memWrite i v).count = s.count := rfl
@[simp] theorem State.memWrite_sample (i : Nat) (v : Ticks) : (s.memWrite i v).sample = s.sample.setIfInBounds i v := rfl
@[simp] theorem State.memWrite_tcnt (i : Nat) (v : Ticks) : (s.memWrite i v).tcnt = s.tcnt := rfl
@[simp] theorem State.memWrite_volume (i : Nat) (v : Ticks) : (s.memWrite i v).volume = s.volume := rfl
@[simp] theorem State.memWrite_mute (i : Nat) (v : Ticks) : (s.memWrite i v).mute = s.mute := rfl
@[simp] theorem State.memWrite_decoded (i : Nat) (v : Ticks) : (s.memWrite i v).decoded = s.decoded := rfl
@[simp] theorem State.memWrite_act (i : Nat) (v : Ticks) : (s.memWrite i v).act = s.act := rfl
@[simp] theorem State.memWrite_diag (i : Nat) (v : Ticks) : (s.memWrite i v).diag = s.diag := rfl
@[simp] theorem State.memWrite_script (i : Nat) (v : Ticks) : (s.memWrite i v).script = s.script := rfl
@[simp] theorem State.memWrite_draws (i : Nat) (v : Ticks) : (s.memWrite i v).draws = s.draws := rfl
@[simp] theorem State.memWrite_drawn (i : Nat) (v : Ticks) : (s.memWrite i v).drawn = s.drawn := rfl

@[simp] theorem State.emitAct_cfg (w : ActWord) : (s.emitAct w).cfg = s.cfg := rfl
@[simp] theorem State.emitAct_lph (w : ActWord) : (s.emitAct w).lph = s.lph := rfl
@[simp] theorem State.emitAct_capstat (w : ActWord) : (s.emitAct w).capstat = s.capstat := rfl
@[simp] theorem State.emitAct_count (w : ActWord) : (s.emitAct w).count = s.count := rfl
@[simp] theorem State.emitAct_sample (w : ActWord) : (s.emitAct w).sample = s.sample := rfl
@[simp] theorem State.emitAct_tcnt (w : ActWord) : (s.emitAct w).tcnt = s.tcnt := rfl
@[simp] theorem State.emitAct_volume (w : ActWord) : (s.emitAct w).volume = s.volume := rfl
@[simp] theorem State.emitAct_mute (w : ActWord) : (s.emitAct w).mute = s.mute := rfl
@[simp] theorem State.emitAct_decoded (w : ActWord) : (s.emitAct w).decoded = s.decoded := rfl
@[simp] theorem State.emitAct_act (w : ActWord) : (s.emitAct w).act = s.act ++ [w] := rfl
@[simp] theorem State.emitAct_diag (w : ActWord) : (s.emitAct w).diag = s.diag := rfl
@[simp] theorem State.emitAct_script (w : ActWord) : (s.emitAct w).script = s.script := rfl
@[simp] theorem State.emitAct_draws (w : ActWord) : (s.emitAct w).draws = s.draws := rfl
@[simp] theorem State.emitAct_drawn (w : ActWord) : (s.emitAct w).drawn = s.drawn := rfl

@[simp] theorem State.emitDiag_cfg (e : DiagEvent) : (s.emitDiag e).cfg = s.cfg := rfl
@[simp] theorem State.emitDiag_lph (e : DiagEvent) : (s.emitDiag e).lph = s.lph := rfl
@[simp] theorem State.emitDiag_capstat (e : DiagEvent) : (s.emitDiag e).capstat = s.capstat := rfl
@[simp] theorem State.emitDiag_count (e : DiagEvent) : (s.emitDiag e).count = s.count := rfl
@[simp] theorem State.emitDiag_sample (e : DiagEvent) : (s.emitDiag e).sample = s.sample := rfl
@[simp] theorem State.emitDiag_tcnt (e : DiagEvent) : (s.emitDiag e).tcnt = s.tcnt := rfl
@[simp] theorem State.emitDiag_volume (e : DiagEvent) : (s.emitDiag e).volume = s.volume := rfl
@[simp] theorem State.emitDiag_mute (e : DiagEvent) : (s.emitDiag e).mute = s.mute := rfl
@[simp] theorem State.emitDiag_decoded (e : DiagEvent) : (s.emitDiag e).decoded = s.decoded := rfl
@[simp] theorem State.emitDiag_act (e : DiagEvent) : (s.emitDiag e).act = s.act := rfl
@[simp] theorem State.emitDiag_diag (e : DiagEvent) : (s.emitDiag e).diag = s.diag ++ [e] := rfl
@[simp] theorem State.emitDiag_script (e : DiagEvent) : (s.emitDiag e).script = s.script := rfl
@[simp] theorem State.emitDiag_draws (e : DiagEvent) : (s.emitDiag e).draws = s.draws := rfl
@[simp] theorem State.emitDiag_drawn (e : DiagEvent) : (s.emitDiag e).drawn = s.drawn := rfl

@[simp] theorem State.afterDraw_cfg : (s.afterDraw).cfg = s.cfg := rfl
@[simp] theorem State.afterDraw_lph : (s.afterDraw).lph = s.lph := rfl
@[simp] theorem State.afterDraw_capstat : (s.afterDraw).capstat = s.capstat := rfl
@[simp] theorem State.afterDraw_count : (s.afterDraw).count = s.count := rfl
@[simp] theorem State.afterDraw_sample : (s.afterDraw).sample = s.sample := rfl
@[simp] theorem State.afterDraw_tcnt : (s.afterDraw).tcnt = s.tcnt := rfl
@[simp] theorem State.afterDraw_volume : (s.afterDraw).volume = s.volume := rfl
@[simp] theorem State.afterDraw_mute : (s.afterDraw).mute = s.mute := rfl
@[simp] theorem State.afterDraw_decoded : (s.afterDraw).decoded = s.decoded := rfl
@[simp] theorem State.afterDraw_act : (s.afterDraw).act = s.act := rfl
@[simp] theorem State.afterDraw_diag : (s.afterDraw).diag = s.diag := rfl
@[simp] theorem State.afterDraw_script : (s.afterDraw).script = s.script := rfl
@[simp] theorem State.afterDraw_draws : (s.afterDraw).draws = s.draws.tail := rfl
@[simp] theorem State.afterDraw_drawn : (s.afterDraw).drawn = s.drawn + 1 := rfl

@[simp] theorem State.pushWord_cfg (w : Byte) : (s.pushWord w).cfg = s.cfg := rfl
@[simp] theorem State.pushWord_lph (w : Byte) : (s.pushWord w).lph = s.lph := rfl
@[simp] theorem State.pushWord_capstat (w : Byte) : (s.pushWord w).capstat = s.capstat := rfl
@[simp] theorem State.pushWord_count (w : Byte) : (s.pushWord w).count = s.count := rfl
@[simp] theorem State.pushWord_sample (w : Byte) : (s.pushWord w).sample = s.sample := rfl
@[simp] theorem State.pushWord_tcnt (w : Byte) : (s.pushWord w).tcnt = s.tcnt := rfl
@[simp] theorem State.pushWord_volume (w : Byte) : (s.pushWord w).volume = s.volume := rfl
@[simp] theorem State.pushWord_mute (w : Byte) : (s.pushWord w).mute = s.mute := rfl
@[simp] theorem State.pushWord_decoded (w : Byte) : (s.pushWord w).decoded = s.decoded := rfl
@[simp] theorem State.pushWord_act (w : Byte) : (s.pushWord w).act = s.act := rfl
@[simp] theorem State.pushWord_diag (w : Byte) : (s.pushWord w).diag = s.diag := rfl
@[simp] theorem State.pushWord_script (w : Byte) : (s.pushWord w).script = w :: s.script := rfl
@[simp] theorem State.pushWord_draws (w : Byte) : (s.pushWord w).draws = s.draws := rfl
@[simp] theorem State.pushWord_drawn (w : Byte) : (s.pushWord w).drawn = s.drawn := rfl

end Sys2Proof.Machine
end

