-- ==== Sys2Proof/Laws/Ops.lean ====
section
/-! SUPPORT. Laws of the shared operations: what each can do, said once, for later proofs to cite. -/

namespace Sys2Proof.Machine

/-- CAP as a numeral, for arithmetic. -/
theorem cap_eq : cap = 256 := rfl

/-- An interval is valid exactly when it lies in [MIN_TICKS, MAX_TICKS] (R81). -/
theorem validInterval_iff (c : Config) (t : Ticks) : validInterval c t = true ↔ c.minTicks ≤ t ∧ t ≤ c.maxTicks := by
  simp [validInterval]

/-! ## CAPSTAT and the legal states -/

theorem packCapstat_fields (x : BitVec 2) : packCapstat x[1] x[0] = x := by
  revert x; decide

@[simp] theorem packCapstat_lsb (f c : Bool) : (packCapstat f c)[0] = c := by
  revert f c; decide

@[simp] theorem packCapstat_msb (f c : Bool) : (packCapstat f c)[1] = f := by
  revert f c; decide

@[simp] theorem State.setCapen_capen (b : Bool) (s : State) : (s.setCapen b).capen = b := by
  simp [State.capen]

@[simp] theorem State.setCapen_frdy (b : Bool) (s : State) : (s.setCapen b).frdy = s.frdy := by
  simp [State.frdy]

@[simp] theorem State.setFrdy_capen (b : Bool) (s : State) : (s.setFrdy b).capen = s.capen := by
  simp [State.capen]

@[simp] theorem State.setFrdy_frdy (b : Bool) (s : State) : (s.setFrdy b).frdy = b := by
  simp [State.frdy]

/-- The four conditions under which a state is legal (R36). -/
theorem State.illegal_eq_none_iff (s : State) :
    s.illegal = none ↔ s.capstat ≠ capstatReserved ∧ s.count.toNat ≤ cap ∧ (s.lph = .init ↔ s.capstat = notArmed) ∧
      (s.capstat = frameReady → s.count ≠ 0#9) := by
  have hx : ∀ x : BitVec 2, x = 0#2 ∨ x = 1#2 ∨ x = 2#2 ∨ x = 3#2 := by decide
  unfold State.illegal
  by_cases h2 : cap < s.count.toNat
  · have h2' : ¬ s.count.toNat ≤ cap := by omega
    simp only [h2, h2', if_true, false_and, and_false]
    split <;> simp
  · have h2' : s.count.toNat ≤ cap := by omega
    simp only [h2, h2', if_false, true_and]
    cases hl : s.lph <;> rcases hx s.capstat with h | h | h | h <;> simp [h, notArmed, frameReady, capstatReserved]

/-- Legality depends on LPH, CAPSTAT and COUNT alone. -/
theorem State.illegal_congr {s t : State} (h1 : t.lph = s.lph) (h2 : t.capstat = s.capstat) (h3 : t.count = s.count) :
    t.illegal = s.illegal := by
  simp only [State.illegal, h1, h2, h3]

/-- CAPEN depends on CAPSTAT alone. -/
theorem State.capen_congr {s t : State} (h : t.capstat = s.capstat) : t.capen = s.capen := by
  simp only [State.capen, h]

/-- With CAPSTAT ≠ 11, CAPEN = 1 is CAPSTAT = ARMED. -/
theorem State.capen_iff_armed {s : State} (h : s.capstat ≠ capstatReserved) : s.capen = true ↔ s.capstat = armed := by
  unfold State.capen
  generalize s.capstat = x at h
  revert x; decide

theorem State.capen_of_armed {s : State} (h : s.capstat = armed) : s.capen = true := by
  simp [State.capen, h]

theorem State.capen_of_frameReady {s : State} (h : s.capstat = frameReady) : s.capen = false := by
  rw [State.capen, h]; rfl

theorem State.capen_of_notArmed {s : State} (h : s.capstat = notArmed) : s.capen = false := by
  simp [State.capen, h]

/-! ## The Sample Buffer -/

/-- A read after a write to the same index gives the value written. -/
theorem State.memRead_memWrite_same (s : State) {i : Nat} (v : Ticks) (h : i < cap) : (s.memWrite i v).memRead i = some v := by
  simp [State.memRead, h]

/-- A write leaves every other index alone. -/
theorem State.memRead_memWrite_ne (s : State) {i j : Nat} (v : Ticks) (h : i ≠ j) :
    (s.memWrite i v).memRead j = s.memRead j := by
  simp [State.memRead, h]

/-- An index has a sample exactly when it is below CAP (R44). -/
theorem State.memRead_isSome_iff (s : State) (i : Nat) : (s.memRead i).isSome = true ↔ i < cap := by
  simp [State.memRead]

/-- Entry `i` of the frame is what MemRead gives. -/
theorem State.frame_getElem? (s : State) {i : Nat} (h : i < s.count.toNat) : s.frame[i]? = s.memRead i := by
  simp [State.frame, State.memRead, h]

theorem State.frame_congr {s t : State} (h1 : t.sample = s.sample) (h2 : t.count = s.count) : t.frame = s.frame := by
  simp only [State.frame, h1, h2]

/-! ## DECODE -/

theorem State.codeBit_congr {s t : State} {k : Nat} (h : t.memRead k = s.memRead k) : t.codeBit k = s.codeBit k := by
  simp only [State.codeBit, h]

/-! ## Capture -/

/-- What ARM does. -/
theorem State.armEffect_eq (s : State) : s.armEffect = { s with count := 0#9, capstat := armed } := by
  have h : packCapstat ((s.setCount 0#9).setFrdy false).frdy true = armed := by simp [packCapstat]
  exact congrArg (fun x => { s with count := 0#9, capstat := x }) h

/-- What TIMEOUT does. -/
theorem State.timeoutEffect_eq (s : State) :
    s.timeoutEffect = if s.count = 0#9 then s else { s with capstat := frameReady } := by
  have h0 : 1 ≤ s.count.toNat ↔ s.count ≠ 0#9 := by bv_omega
  have h2 : (s.setCapen false).setFrdy true = { s with capstat := frameReady } := by
    have h : packCapstat true (s.setCapen false).capen = frameReady := by simp [packCapstat]
    exact congrArg (fun x => { s with capstat := x }) h
  by_cases hc : s.count = 0#9
  · simp [State.timeoutEffect, hc]
  · simp [State.timeoutEffect, hc, h0.mpr hc, h2]

/-- A masked event is lost (R146). -/
theorem State.runHandler_masked {s : State} (e : HandlerEvent) (h : s.capen = false) : s.runHandler e = s := by
  simp [State.runHandler, h]

/-- An enabled EDGE: it resets TCNT, and records the interval when it is in range and there is room (R82). -/
theorem State.captureEffect_cases (s : State) :
    (validInterval s.cfg s.tcnt = true ∧ s.count.toNat < cap ∧
      s.captureEffect = { s with tcnt := 0#16, sample := s.sample.setIfInBounds s.count.toNat s.tcnt, count := s.count + 1#9 }) ∨
    ((validInterval s.cfg s.tcnt = false ∨ cap ≤ s.count.toNat) ∧ s.captureEffect = { s with tcnt := 0#16 }) := by
  cases hv : validInterval s.cfg s.tcnt with
  | false => exact .inr ⟨.inl rfl, by simp only [State.captureEffect, hv]; rfl⟩
  | true =>
    by_cases hc : s.count.toNat < cap
    · exact .inl ⟨rfl, hc, by simp only [State.captureEffect, hv, hc]; rfl⟩
    · exact .inr ⟨.inr (by omega), by simp only [State.captureEffect, hv, hc]; rfl⟩

/-- TICK: it counts, and the timeout event closes a frame of at least one sample (R80, R84). -/
theorem State.tickEffect_eq (s : State) :
    s.tickEffect =
      if s.capen = true ∧ s.tcnt = s.cfg.maxTicks ∧ s.count ≠ 0#9 then { s with tcnt := s.tcnt + 1#16, capstat := frameReady }
      else { s with tcnt := s.tcnt + 1#16 } := by
  have hc : (s.setTcnt (s.tcnt + 1#16)).capen = s.capen := rfl
  unfold State.tickEffect
  by_cases h1 : s.tcnt = s.cfg.maxTicks
  · rw [if_pos h1]
    cases h2 : s.capen with
    | false =>
      rw [State.runHandler_masked _ (hc.trans h2), if_neg (by simp)]
      rfl
    | true =>
      have h3 : (s.setTcnt (s.tcnt + 1#16)).runHandler .timeout = (s.setTcnt (s.tcnt + 1#16)).timeoutEffect := by
        rw [State.runHandler, hc, h2]; rfl
      rw [h3, State.timeoutEffect_eq]
      by_cases h4 : s.count = 0#9
      · rw [if_pos (by exact h4), if_neg (by simp [h4])]; rfl
      · rw [if_neg (by exact h4), if_pos ⟨rfl, h1, h4⟩]; rfl
  · rw [if_neg h1, if_neg (by simp [h1])]; rfl

/-! ## The gain dispatcher -/

/-- ACTUATE writes the two ports and takes one draw; the Gain Profile and the capture state stay. -/
theorem State.actuate_eq (s : State) :
    s.actuate = { s with
      act := s.act ++ [s.actWord]
      diag := s.diag ++ [.actResult s.actWord s.nextDraw]
      draws := s.draws.tail
      drawn := s.drawn + 1 } := rfl

/-- A command's action writes VOLUME and MUTE and emits at most on DIAG. -/
theorem State.commandAction_writes (s : State) (code : Code) (cmd : Cmd) :
    s.commandAction code cmd = { s with
      volume := (s.commandAction code cmd).volume
      mute := (s.commandAction code cmd).mute
      diag := (s.commandAction code cmd).diag } := by
  cases cmd <;>
    simp only [State.commandAction, State.volUpAction, State.volDownAction, State.muteAction, State.loudAction,
      State.quietAction, State.powerOnAction, State.powerOffAction, State.noneAction] <;>
    (try split) <;> rfl

/-- DISPATCH of a recognized code is the command's action and then ACTUATE (R102). -/
theorem State.dispatchCode_recognized (s : State) {code : Code} (h : s.cfg.lookup code ≠ .noneCmd) :
    s.dispatchCode code = (s.commandAction code (s.cfg.lookup code)).actuate := by
  unfold State.dispatchCode
  cases hc : s.cfg.lookup code <;> simp_all

/-- DISPATCH of an unrecognized code only reports it (R110). -/
theorem State.dispatchCode_unrecognized (s : State) {code : Code} (h : s.cfg.lookup code = .noneCmd) :
    s.dispatchCode code = { s with diag := s.diag ++ [.unrecognized code] } := by
  unfold State.dispatchCode
  simp only [h]; rfl

/-- DISPATCH writes VOLUME and MUTE, the two ports and the draws, and nothing else (R114). -/
theorem State.dispatchCode_writes (s : State) (code : Code) :
    s.dispatchCode code = { s with
      volume := (s.dispatchCode code).volume
      mute := (s.dispatchCode code).mute
      act := (s.dispatchCode code).act
      diag := (s.dispatchCode code).diag
      draws := (s.dispatchCode code).draws
      drawn := (s.dispatchCode code).drawn } := by
  by_cases h : s.cfg.lookup code = .noneCmd
  · rw [State.dispatchCode_unrecognized s h]
  · rw [State.dispatchCode_recognized s h, State.actuate_eq, State.commandAction_writes]

/-- The same of DISPATCH of the decoded code, which does nothing when there is none. -/
theorem State.dispatchEffect_writes (s : State) :
    s.dispatchEffect = { s with
      volume := s.dispatchEffect.volume
      mute := s.dispatchEffect.mute
      act := s.dispatchEffect.act
      diag := s.dispatchEffect.diag
      draws := s.dispatchEffect.draws
      drawn := s.dispatchEffect.drawn } := by
  obtain h | ⟨code, h⟩ := Option.eq_none_or_eq_some s.decoded
  · have h' : s.dispatchEffect = s := by rw [State.dispatchEffect, h]
    rw [h']
  · have h' : s.dispatchEffect = s.dispatchCode code := by rw [State.dispatchEffect, h]
    rw [h']; exact State.dispatchCode_writes s code

/-! ## The control loop -/

/-- LOOP_INIT arms capture and enters RUN. -/
theorem State.loopInitEffect_eq (s : State) :
    s.loopInitEffect = { s with lph := .run, count := 0#9, capstat := armed } := by
  simp [State.loopInitEffect, State.armEffect_eq, State.setLph]

/-- The state in which SERVICE_FRAME dispatches a valid code: the dump and the code are reported, and the code is latched. -/
def State.reported (s : State) (code : Code) : State :=
  { s with diag := s.diag ++ [.samples s.count.toNat s.frame] ++ [.code code], decoded := some code }

/-- SERVICE_FRAME on a short frame: the dump, then ARM (R142). -/
theorem State.serviceFrameEffect_short (s : State) (h : s.decodeFrame = none) :
    s.serviceFrameEffect = { s with
      diag := s.diag ++ [.samples s.count.toNat s.frame]
      decoded := none
      count := 0#9
      capstat := armed } := by
  have h1 : (s.emitDiag (.samples s.count.toNat s.frame)).decodeEffect =
      { s with diag := s.diag ++ [.samples s.count.toNat s.frame], decoded := none } := by
    rw [← h]; rfl
  rw [State.serviceFrameEffect, h1, State.armEffect_eq]
  rfl

/-- SERVICE_FRAME on a valid code: the dump, the code, its DISPATCH, then ARM (R124). -/
theorem State.serviceFrameEffect_valid (s : State) {code : Code} (h : s.decodeFrame = some code) :
    s.serviceFrameEffect = { (s.reported code).dispatchEffect with decoded := none, count := 0#9, capstat := armed } := by
  have h1 : (s.emitDiag (.samples s.count.toNat s.frame)).decodeEffect =
      { s with diag := s.diag ++ [.samples s.count.toNat s.frame], decoded := some code } := by
    rw [← h]; rfl
  rw [State.serviceFrameEffect, h1, State.armEffect_eq]
  rfl

/-- SERVICE_FRAME ends armed and empty, and touches neither the samples, the timer, the phase, nor the schedule (R124, R127). -/
theorem State.serviceFrameEffect_writes (s : State) :
    s.serviceFrameEffect = { s with
      capstat := armed
      count := 0#9
      decoded := none
      volume := s.serviceFrameEffect.volume
      mute := s.serviceFrameEffect.mute
      act := s.serviceFrameEffect.act
      diag := s.serviceFrameEffect.diag
      draws := s.serviceFrameEffect.draws
      drawn := s.serviceFrameEffect.drawn } := by
  cases h : s.decodeFrame with
  | none => rw [State.serviceFrameEffect_short s h]
  | some code =>
    rw [State.serviceFrameEffect_valid s h, State.dispatchEffect_writes]
    rfl

end Sys2Proof.Machine
end

