-- ==== Sys2Proof/Laws/PerInstr.lean ====
section
/-! SUPPORT. Laws per instruction. EncodedLength (R60, R70): an EV row is one byte and a command row is four. -/

namespace Sys2Proof.Laws.EncodedLength

/-- "Every EV word is 8 bits and every code is exactly 32 bits" (R70), under every configuration. -/
def Statement (i : Instr) : Prop := ∀ c : Config, (encode c i).length = if i.kind = .command then 4 else 1

theorem reset : Statement .reset := fun _ => rfl
theorem tick : Statement .tick := fun _ => rfl
theorem edge : Statement .edge := fun _ => rfl
theorem loop : Statement .loop := fun _ => rfl
theorem loopInit : Statement .loopInit := fun _ => rfl
theorem poll : Statement .poll := fun _ => rfl
theorem serviceFrame : Statement .serviceFrame := fun _ => rfl
theorem arm : Statement .arm := fun _ => rfl
theorem timeout : Statement .timeout := fun _ => rfl
theorem decode : Statement .decode := fun _ => rfl
theorem dispatch : Statement .dispatch := fun _ => rfl
theorem actuate : Statement .actuate := fun _ => rfl
theorem reservedEv (word : Byte) : Statement (.reservedEv word) := fun _ => rfl
theorem volUp : Statement .volUp := fun _ => rfl
theorem volDown : Statement .volDown := fun _ => rfl
theorem mute : Statement .mute := fun _ => rfl
theorem loud : Statement .loud := fun _ => rfl
theorem quiet : Statement .quiet := fun _ => rfl
theorem powerOn : Statement .powerOn := fun _ => rfl
theorem powerOff : Statement .powerOff := fun _ => rfl
theorem noneCmd (code : Code) : Statement (.noneCmd code) := fun _ => rfl

end Sys2Proof.Laws.EncodedLength
end

