-- ==== Sys2Proof/Laws/Step.lean ====
section
/-! SUPPORT. Laws of a step: the four standalone words, what the fetch takes, and the run of one more step. -/

namespace Sys2Proof.Machine

/-- The four words that can start a step, and no other (R61). -/
theorem standaloneWord_iff (w : Byte) : standaloneWord w ↔ w = 0x00#8 ∨ w = 0x01#8 ∨ w = 0x02#8 ∨ w = 0x03#8 := by
  unfold standaloneWord
  revert w; decide +kernel

@[simp] theorem decodeEv_reset : decodeEv 0x00#8 = .reset := by decide

@[simp] theorem decodeEv_tick : decodeEv 0x01#8 = .tick := by decide

@[simp] theorem decodeEv_edge : decodeEv 0x02#8 = .edge := by decide

@[simp] theorem decodeEv_loop : decodeEv 0x03#8 = .loop := by decide

/-- The fetch changes the pending script or the count of free choices, and nothing else. -/
theorem State.afterFetch_writes (s : State) :
    s.afterFetch = { s with script := s.afterFetch.script, drawn := s.afterFetch.drawn } := by
  unfold State.afterFetch
  split <;> rfl

/-- With no script line pending, the next word is one of the four that can start a step (log entry 4). -/
theorem State.nextWord_standalone_of_empty (s : State) (h : s.script = []) : standaloneWord s.nextWord := by
  have hw : ∀ x : BitVec 2, standaloneWord (x.setWidth 8) := by decide
  simp only [State.nextWord, h]
  exact hw _

/-- A step whose word can start one runs its operation. -/
theorem step_of_standalone {s : State} (h : standaloneWord s.nextWord) : step s = exec (decodeEv s.nextWord) s.afterFetch := by
  simp only [step, h, Bool.true_or, if_true]

/-- A step that answers a next state ran one of the four standalone operations (R61). -/
theorem step_next_cases {s t : State} (h : step s = .next t) :
    (s.nextWord = 0x00#8 ∧ execReset s.afterFetch = .next t) ∨ (s.nextWord = 0x01#8 ∧ execTick s.afterFetch = .next t) ∨
      (s.nextWord = 0x02#8 ∧ execEdge s.afterFetch = .next t) ∨ (s.nextWord = 0x03#8 ∧ execLoop s.afterFetch = .next t) := by
  by_cases hw : standaloneWord s.nextWord
  · rw [step_of_standalone hw] at h
    obtain e | e | e | e := (standaloneWord_iff _).mp hw <;> rw [e] at h
    · exact .inl ⟨e, h⟩
    · exact .inr (.inl ⟨e, h⟩)
    · exact .inr (.inr (.inl ⟨e, h⟩))
    · exact .inr (.inr (.inr ⟨e, h⟩))
  · unfold step at h
    have hr : ∀ w : Byte, (decodeEv w).standalone = false → ((decodeEv w).kind == .reserved) = true →
        decodeEv w = .reservedEv w := by decide +kernel
    have hs : (decodeEv s.nextWord).standalone = false := by simpa [standaloneWord] using hw
    cases hk : (decodeEv s.nextWord).kind == .reserved with
    | true =>
      have he := hr _ hs hk
      simp [he, Instr.kind, exec, execReservedEv] at h
    | false => simp [hs, hk] at h

theorem State.afterFetch_illegal (s : State) : s.afterFetch.illegal = s.illegal := by
  rw [s.afterFetch_writes]; rfl

/-- Everything a step that answers a next state can have done. -/
theorem step_next_inv {s t : State} (h : step s = .next t) :
    (s.nextWord = 0x00#8 ∧ t = s.afterFetch.resetEffect) ∨
    (s.illegal = none ∧ s.nextWord = 0x01#8 ∧ t = s.afterFetch.tickEffect) ∨
    (s.illegal = none ∧ s.nextWord = 0x02#8 ∧ t = s.afterFetch.runHandler .capture) ∨
    (s.illegal = none ∧ s.nextWord = 0x03#8 ∧ s.lph = .init ∧ t = s.afterFetch.loopInitEffect) ∨
    (s.illegal = none ∧ s.nextWord = 0x03#8 ∧ s.lph = .run ∧ s.capstat = frameReady ∧
      t = s.afterFetch.serviceFrameEffect) ∨
    (s.illegal = none ∧ s.nextWord = 0x03#8 ∧ s.lph = .run ∧ s.capstat ≠ frameReady ∧ t = s.afterFetch) := by
  have hl : s.afterFetch.lph = s.lph := by rw [s.afterFetch_writes]
  have hc : s.afterFetch.capstat = s.capstat := by rw [s.afterFetch_writes]
  obtain ⟨w, h⟩ | ⟨w, h⟩ | ⟨w, h⟩ | ⟨w, h⟩ := step_next_cases h
  · simp only [execReset, Host.Outcome.next.injEq] at h
    exact .inl ⟨w, h.symm⟩
  · unfold execTick at h
    rw [State.afterFetch_illegal] at h
    cases hi : s.illegal <;> simp [hi] at h
    exact .inr (.inl ⟨rfl, w, h.symm⟩)
  · unfold execEdge at h
    rw [State.afterFetch_illegal] at h
    cases hi : s.illegal <;> simp [hi] at h
    exact .inr (.inr (.inl ⟨rfl, w, h.symm⟩))
  · unfold execLoop at h
    rw [State.afterFetch_illegal] at h
    cases hi : s.illegal <;> simp [hi] at h
    rw [hl, hc] at h
    refine .inr (.inr (.inr ?_))
    by_cases h1 : s.lph = .init
    · simp only [h1, if_true, execLoopInit, Host.Outcome.next.injEq] at h
      exact .inl ⟨rfl, w, h1, h.symm⟩
    · have h1' : s.lph = .run := by cases hp : s.lph <;> simp_all
      by_cases h2 : s.capstat = frameReady
      · simp only [h1, h2, execServiceFrame, if_false, if_true] at h
        split at h
        · cases h
        · simp only [Host.Outcome.next.injEq] at h
          exact .inr (.inl ⟨rfl, w, h1', h2, h.symm⟩)
      · simp only [h1, h2, if_false, execPoll, Host.Outcome.next.injEq] at h
        exact .inr (.inr ⟨rfl, w, h1', h2, h.symm⟩)

@[simp] theorem State.run_zero (s : State) : s.run 0 = .next s := rfl

/-- One more step of a run, when the first answers a next state. -/
theorem State.run_succ_of_next {s t : State} (n : Nat) (h : step s = .next t) : s.run (n + 1) = t.run n := by
  have h' : Sys2Proof.core.step s = .next t := h
  simp only [State.run, Host.Core.run, h']
  rfl

/-- A run in two parts. -/
theorem State.run_add {s t : State} {m : Nat} (n : Nat) (h : s.run m = .next t) : s.run (m + n) = t.run n := by
  induction m generalizing s with
  | zero =>
    simp only [State.run_zero, Host.Outcome.next.injEq] at h
    rw [h, Nat.zero_add]
  | succ m ih =>
    cases hs : step s with
    | next s' =>
      rw [State.run_succ_of_next m hs] at h
      rw [Nat.add_right_comm, State.run_succ_of_next _ hs]
      exact ih h
    | fault r => cases r
    | refused r =>
      have hs' : Sys2Proof.core.step s = .refused r := hs
      simp only [State.run, Host.Core.run, hs'] at h
      cases h

/-! ## A step whose word stands first in the script -/

/-- The step runs the word's operation after the word is taken. -/
theorem step_script {s : State} {w : Byte} {rest : List Byte} (h : s.script = w :: rest) (hw : standaloneWord w) :
    step s = exec (decodeEv w) { s with script := rest } := by
  have h1 : s.nextWord = w := by rw [State.nextWord, h]
  have h2 : s.afterFetch = { s with script := rest } := by rw [State.afterFetch, h]
  have h3 : standaloneWord s.nextWord := by rw [h1]; exact hw
  rw [step_of_standalone h3, h1, h2]

/-- A TICK in a legal state. -/
theorem step_tick {s : State} {rest : List Byte} (h : s.script = 0x01#8 :: rest) (hl : s.illegal = none) :
    step s = .next { s with
      script := rest
      tcnt := s.tcnt + 1#16
      capstat := if s.capen = true ∧ s.tcnt = s.cfg.maxTicks ∧ s.count ≠ 0#9 then frameReady else s.capstat } := by
  have hl' : ({ s with script := rest } : State).illegal = none := hl
  rw [step_script h (by decide), decodeEv_tick]
  simp only [exec, execTick, hl', State.tickEffect_eq]
  by_cases hc : s.capen = true ∧ s.tcnt = s.cfg.maxTicks ∧ s.count ≠ 0#9
  · have hc' : ({ s with script := rest } : State).capen = true ∧ s.tcnt = s.cfg.maxTicks ∧ s.count ≠ 0#9 := hc
    rw [if_pos hc, if_pos hc']
  · have hc' : ¬ (({ s with script := rest } : State).capen = true ∧ s.tcnt = s.cfg.maxTicks ∧ s.count ≠ 0#9) := hc
    rw [if_neg hc, if_neg hc']

/-- An EDGE in a legal state. -/
theorem step_edge {s : State} {rest : List Byte} (h : s.script = 0x02#8 :: rest) (hl : s.illegal = none) :
    step s = .next (({ s with script := rest } : State).runHandler .capture) := by
  have hl' : ({ s with script := rest } : State).illegal = none := hl
  rw [step_script h (by decide), decodeEv_edge]
  simp only [exec, execEdge, hl']

/-- A LOOP in a legal state. -/
theorem step_loop {s : State} {rest : List Byte} (h : s.script = 0x03#8 :: rest) (hl : s.illegal = none) :
    step s = .next (
      if s.lph = .init then ({ s with script := rest } : State).loopInitEffect
      else if s.capstat = frameReady then ({ s with script := rest } : State).serviceFrameEffect
      else { s with script := rest }) := by
  have hl' : ({ s with script := rest } : State).illegal = none := hl
  have hc : ¬ cap < s.count.toNat := by
    have := ((s.illegal_eq_none_iff).mp hl).2.1
    exact Nat.not_lt.mpr this
  rw [step_script h (by decide), decodeEv_loop]
  simp only [exec, execLoop, hl']
  by_cases h1 : s.lph = .init
  · simp only [h1, if_true, execLoopInit]
  · by_cases h2 : s.capstat = frameReady
    · simp only [h1, h2, if_false, if_true, execServiceFrame, hc]
    · simp only [h1, h2, if_false, execPoll]

end Sys2Proof.Machine
end

