-- ==== Sys2Proof/Tests/Slice0.lean ====
section
/-! SUPPORT. Tests: the refusals of WellFormed, the decoding of every row, vectors of spec/95_test_vectors.md (expected values from
there), and for each statement a state and operands that meet its hypotheses. -/

namespace Sys2Proof.Tests

open Sys2Proof Sys2Proof.Machine

/-! ## A small state, in the vector configuration VC (R14) -/

/-- LPH / CAPSTAT / COUNT / TCNT / VOLUME / MUTE, as 95_test_vectors.md writes a state. -/
def st (lph : Lph) (capstat : BitVec 2) (count : BitVec 9) (tcnt : Ticks) (volume : Byte) (mute : Bool) : State :=
  { State.reset with lph := lph, capstat := capstat, count := count, tcnt := tcnt, volume := volume, mute := mute }

/-- RUN and ARMED, 200, muted. -/
def armedSt (count : BitVec 9) (tcnt : Ticks) : State := st .run armed count tcnt 200#8 true

/-- RUN and FRAME_READY, 200, muted. -/
def readySt (count : BitVec 9) (tcnt : Ticks) : State := st .run frameReady count tcnt 200#8 true

/-- A state with a decoded code, in the middle of a SERVICE_FRAME. -/
def codeSt (code : Code) (volume : Byte) (mute : Bool) : State :=
  { st .run frameReady 32#9 40001#16 volume mute with decoded := some code }

/-- The next state of an outcome, if it is one. -/
def nextOf : Host.Outcome State Fault Refusal → Option State
  | .next s => some s
  | .fault _ => none
  | .refused _ => none

/-- The refusal of an outcome, if it is one. -/
def refusalOf : Host.Outcome State Fault Refusal → Option Refusal
  | .next _ => none
  | .fault _ => none
  | .refused r => some r

/-- What a test reads of the capture state: CAPSTAT, COUNT and TCNT. -/
def capture (s : State) : BitVec 2 × BitVec 9 × Ticks := (s.capstat, s.count, s.tcnt)

/-- What a test reads of the gain side: VOLUME, MUTE and the words on ACT. -/
def gain (s : State) : Byte × Bool × List ActWord := (s.volume, s.mute, s.act)

/-- A configuration at the ends of R8: MIN_TICKS = 501 and MAX_TICKS = 65534, with CODE_POWER_ON equal to CODE_LOUD (V55). -/
def edgeConfig : Config :=
  { Config.vc with minTicks := 501#16, maxTicks := 65534#16, codePowerOn := 0xFB04FE01#32 }

/-! ## WellFormed: an ill-formed term for each check -/

/-- EV word 0x01 is TICK, not reserved. -/
theorem test_wf_refuses_reserved_of_tick : Instr.wf Config.vc (.reservedEv 0x01#8) = false := by decide

/-- EV word 0x0B is ARM, not reserved. -/
theorem test_wf_refuses_reserved_of_arm : Instr.wf Config.vc (.reservedEv 0x0B#8) = false := by decide

/-- A code of the table is not NONE. -/
theorem test_wf_refuses_none_of_table_code : Instr.wf Config.vc (.noneCmd 0x27D859A6#32) = false := by decide

/-- An entry equal to a lower one can never be selected (R101, V55). -/
theorem test_wf_refuses_shadowed_power_on : Instr.wf edgeConfig .powerOn = false := by decide

/-- The same for the other four open entries: each is shadowed by CODE_VOL_UP, or QUIET by an open entry above it. -/
theorem test_wf_refuses_shadowed_entries :
    Instr.wf { Config.vc with codeVolDown := 0xF50A59A6#32 } .volDown = false ∧
    Instr.wf { Config.vc with codeMute := 0xF50A59A6#32 } .mute = false ∧
    Instr.wf { Config.vc with codeLoud := 0xF50A59A6#32 } .loud = false ∧
    Instr.wf { Config.vc with codeLoud := 0x27D859A6#32 } .quiet = false ∧
    Instr.wf { Config.vc with codePowerOff := 0xF50A59A6#32 } .powerOff = false := by decide

/-! ## Decode: every row, by a word written out from R61's table (RSV 7:4, OP 3:0) and R62's bytes -/

theorem test_decode_reset : decode Config.vc [0b0000_0000#8] = .ok .reset := by rfl
theorem test_decode_tick : decode Config.vc [0b0000_0001#8] = .ok .tick := by rfl
theorem test_decode_edge : decode Config.vc [0b0000_0010#8] = .ok .edge := by rfl
theorem test_decode_loop : decode Config.vc [0b0000_0011#8] = .ok .loop := by rfl
theorem test_decode_loop_init : decode Config.vc [0b0000_1000#8] = .ok .loopInit := by rfl
theorem test_decode_poll : decode Config.vc [0b0000_1001#8] = .ok .poll := by rfl
theorem test_decode_service_frame : decode Config.vc [0b0000_1010#8] = .ok .serviceFrame := by rfl
theorem test_decode_arm : decode Config.vc [0b0000_1011#8] = .ok .arm := by rfl
theorem test_decode_timeout : decode Config.vc [0b0000_1100#8] = .ok .timeout := by rfl
theorem test_decode_decode : decode Config.vc [0b0000_1101#8] = .ok .decode := by rfl
theorem test_decode_dispatch : decode Config.vc [0b0000_1110#8] = .ok .dispatch := by rfl
theorem test_decode_actuate : decode Config.vc [0b0000_1111#8] = .ok .actuate := by rfl

/-- OP 0x4 to 0x7, and RSV ≠ 0 (R68 (a)). -/
theorem test_decode_reserved :
    (decodeEv 0b0000_0100#8, decodeEv 0b0000_0111#8, decodeEv 0b0001_0001#8, decodeEv 0b1000_1011#8) =
      (.reservedEv 0b0000_0100#8, .reservedEv 0b0000_0111#8, .reservedEv 0b0001_0001#8, .reservedEv 0b1000_1011#8) := by
  decide

/-- The codes of R6 and R14, byte 0 first. -/
theorem test_decode_vol_up : decode Config.vc [0xa6#8, 0x59#8, 0x0a#8, 0xf5#8] = .ok .volUp := by rfl
theorem test_decode_vol_down : decode Config.vc [0x01#8, 0xFE#8, 0x02#8, 0xFD#8] = .ok .volDown := by rfl
theorem test_decode_mute : decode Config.vc [0x01#8, 0xFE#8, 0x03#8, 0xFC#8] = .ok .mute := by rfl
theorem test_decode_loud : decode Config.vc [0x01#8, 0xFE#8, 0x04#8, 0xFB#8] = .ok .loud := by rfl
theorem test_decode_quiet : decode Config.vc [0xa6#8, 0x59#8, 0xd8#8, 0x27#8] = .ok .quiet := by rfl
theorem test_decode_power_on : decode Config.vc [0x01#8, 0xFE#8, 0x05#8, 0xFA#8] = .ok .powerOn := by rfl
theorem test_decode_power_off : decode Config.vc [0x01#8, 0xFE#8, 0x06#8, 0xF9#8] = .ok .powerOff := by rfl

/-- V54: one bit off VOL_UP is unrecognized. -/
theorem test_decode_none : decode Config.vc [0xa7#8, 0x59#8, 0x0a#8, 0xf5#8] = .ok (.noneCmd 0xF50A59A7#32) := by rfl

/-- No format has two bytes (R70). -/
theorem test_decode_bad_length : decode Config.vc [0x00#8, 0x00#8] = .error (.badLength 2) := by rfl

/-! ## Capture -/

/-- V3: the TICK from MAX_TICKS closes a frame of five samples. -/
theorem test_tick_timeout : (nextOf (exec .tick (armedSt 5#9 40000#16))).map capture = some (frameReady, 5#9, 40001#16) := by
  decide

/-- V5: TCNT wraps, and that is no timeout. -/
theorem test_tick_wrap : (nextOf (exec .tick (armedSt 0#9 0xFFFF#16))).map capture = some (armed, 0#9, 0#16) := by decide

/-- V19: the last slot of the buffer. -/
theorem test_edge_last_slot :
    (nextOf (exec .edge (armedSt 255#9 4500#16))).map (fun s => (capture s, s.memRead 255)) =
      some ((armed, 256#9, 0#16), some 4500#16) := by decide +kernel

/-- V16: a full buffer drops the sample and TCNT is still reset. -/
theorem test_edge_overflow : (nextOf (exec .edge (armedSt 256#9 1500#16))).map capture = some (armed, 256#9, 0#16) := by decide

/-- V4's TIMEOUT is a no-op; with one sample it closes the frame (V21). -/
theorem test_timeout_empty : (nextOf (exec .timeout (armedSt 0#9 40001#16))).map capture = some (armed, 0#9, 40001#16) := by
  decide
theorem test_timeout_one : (nextOf (exec .timeout (armedSt 1#9 40001#16))).map capture = some (frameReady, 1#9, 40001#16) := by
  decide

/-- V26: ARM from FRAME_READY; TCNT is unchanged. -/
theorem test_arm : (nextOf (exec .arm (readySt 32#9 7#16))).map capture = some (armed, 0#9, 7#16) := by decide

/-- V80: RESET from a running state, with the draw TCNT_RESET = 1500 (P6). -/
theorem test_reset :
    (nextOf (exec .reset { st .run armed 17#9 9#16 13#8 false with draws := [1500#16] })).map capture =
      some (notArmed, 0#9, 1500#16) ∧
    (nextOf (exec .reset (st .run armed 17#9 9#16 13#8 false))).map gain = some (200#8, true, []) := by decide

/-- RESERVED_EV is refused (R68 (a)). -/
theorem test_reserved : refusalOf (exec (.reservedEv 0x04#8) State.reset) = some (.reservedWord 0x04#8) := by decide

/-! ## Decode, dispatch, actuate -/

/-- A state whose first samples are the list, with COUNT. -/
def withSamples (ts : List Ticks) (count : BitVec 9) : State :=
  { readySt count 40001#16 with
    sample := (List.range ts.length).foldl (fun v k => v.setIfInBounds k (ts.getD k 0#16)) State.reset.sample }

/-- S7's 32 samples, of the code 0xF50A59A6. -/
def s7 : List Ticks :=
  [1500#16, 4500#16, 4500#16, 1500#16, 1500#16, 4500#16, 1500#16, 4500#16] ++
  [4500#16, 1500#16, 1500#16, 4500#16, 4500#16, 1500#16, 4500#16, 1500#16] ++
  [1500#16, 4500#16, 1500#16, 4500#16, 1500#16, 1500#16, 1500#16, 1500#16] ++
  [4500#16, 1500#16, 4500#16, 1500#16, 4500#16, 4500#16, 4500#16, 4500#16]

/-- V33: the S7 pattern. -/
theorem test_decode_frame_s7 : (withSamples s7 32#9).decodeFrame = some 0xF50A59A6#32 := by decide +kernel

/-- V32: 3000 is not above IR_REF and 3001 is. -/
theorem test_decode_frame_boundary :
    (withSamples ([3001#16] ++ List.replicate 30 3000#16 ++ [3001#16]) 32#9).decodeFrame = some 0x80000001#32 := by
  decide +kernel

/-- V35: 31 samples are short. -/
theorem test_decode_short : (nextOf (exec .decode (withSamples s7 31#9))).map (·.decoded) = some none := by decide

/-- V40 and V43. -/
theorem test_dispatch_vol_up :
    (nextOf (exec .dispatch (codeSt 0xF50A59A6#32 100#8 false))).map gain = some (101#8, false, [0x6565#16]) := by decide
theorem test_dispatch_vol_up_saturated :
    (nextOf (exec .dispatch (codeSt 0xF50A59A6#32 255#8 false))).map gain = some (255#8, false, [0xFFFF#16]) := by decide

/-- V55: of two equal entries the lower index wins. -/
theorem test_lookup_overlap : edgeConfig.lookup 0xFB04FE01#32 = .loud := by decide

/-- V63 and V64. -/
theorem test_actuate_unmuted :
    (nextOf (exec .actuate (st .run armed 0#9 0#16 200#8 false))).map (·.act) = some [0xC8C8#16] := by decide
theorem test_actuate_muted :
    (nextOf (exec .actuate { st .run armed 0#9 0#16 200#8 true with draws := [7#16] })).map (fun s => (s.act, s.diag)) =
      some ([0x0000#16], [.actResult 0x0000#16 7#16]) := by decide

/-- V41, V45, V46: the unmute press, and the floor. -/
theorem test_vol_up_muted : (nextOf (exec .volUp (st .run armed 0#9 0#16 100#8 true))).map gain = some (100#8, false, []) := by
  decide
theorem test_vol_down_floor : (nextOf (exec .volDown (st .run armed 0#9 0#16 0#8 false))).map gain = some (0#8, false, []) := by
  decide

/-- V47, V49, V50, and the DIAG events of V51 to V53. -/
theorem test_mute : (nextOf (exec .mute (st .run armed 0#9 0#16 150#8 false))).map gain = some (150#8, true, []) := by decide
theorem test_loud : (nextOf (exec .loud (st .run armed 0#9 0#16 10#8 true))).map gain = some (230#8, false, []) := by decide
theorem test_quiet : (nextOf (exec .quiet (st .run armed 0#9 0#16 255#8 false))).map gain = some (60#8, false, []) := by decide
theorem test_power_on : (nextOf (exec .powerOn State.reset)).map (·.diag) = some [.unsupported .powerOn] := by decide
theorem test_power_off : (nextOf (exec .powerOff State.reset)).map (·.diag) = some [.unsupported .powerOff] := by decide
theorem test_none :
    (nextOf (exec .dispatch (codeSt 0x12345678#32 77#8 false))).map (fun s => (gain s, s.diag)) =
      some ((77#8, false, []), [.unrecognized 0x12345678#32]) := by decide

/-! ## The control loop and the step -/

/-- V70. -/
theorem test_loop_init :
    (nextOf (exec .loopInit State.reset)).map (fun s => (s.lph, capture s)) = some (.run, (armed, 0#9, 0#16)) := by decide

/-- V72: a POLL leaves a frame in progress alone. -/
theorem test_loop_poll : (nextOf (exec .loop (armedSt 5#9 7#16))).map capture = some (armed, 5#9, 7#16) := by decide
theorem test_poll : (nextOf (exec .poll (armedSt 5#9 7#16))).map capture = some (armed, 5#9, 7#16) := by decide

/-- V74: the S7 frame at 100, unmuted. -/
theorem test_service_frame :
    (nextOf (exec .serviceFrame { withSamples s7 32#9 with volume := 100#8, mute := false, draws := [9#16] })).map
      (fun s => (capture s, gain s, s.diag)) =
      some ((armed, 0#9, 40001#16), (101#8, false, [0x6565#16]),
        [.samples 32 s7, .code 0xF50A59A6#32, .actResult 0x6565#16 9#16]) := by decide +kernel

/-- V73: a short frame is dumped and nothing is sent. -/
theorem test_service_short :
    (nextOf (exec .serviceFrame (withSamples (s7.take 8) 8#9))).map (fun s => (capture s, gain s, s.diag)) =
      some ((armed, 0#9, 40001#16), (200#8, true, []), [.samples 8 (s7.take 8)]) := by decide +kernel

/-- Every row that can be brought about from `State.reset` runs as the next step, and a reserved word is refused. -/
theorem test_placed_rows_run :
    ([0x0, 0x1, 0x2, 0x3, 0x8, 0x9, 0xA, 0xB, 0xC, 0xD, 0xE, 0xF].all fun w =>
      (nextOf (step (State.reset.withFetchWord 8 w))).isSome) = true ∧
    refusalOf (step (State.reset.withFetchWord 8 0x04)) = some (.reservedWord 0x04#8) := by decide +kernel

/-- A code placed as a frame is dispatched by the next step: QUIET (S8). -/
theorem test_placed_code_runs :
    (nextOf (step (State.reset.withFetchWord 32 0x27D859A6))).map gain = some (60#8, false, [0x3C3C#16]) := by decide +kernel

/-- R68 (b): an external ARM is refused. -/
theorem test_external_arm :
    refusalOf (step { armedSt 7#9 3#16 with script := [0x0B#8] }) = some (.internalOp 0x0B#8) := by decide

/-! ## Script text (R71, R72) -/

/-- Two lines, a comment and an ADVANCE. -/
theorem test_assemble :
    assemble Config.vc BitTicks.vc
      ['L', 'O', 'O', 'P', ' ', ';', 'x', '\n', 'A', 'D', 'V', 'A', 'N', 'C', 'E', ' ', '2', '\n', 'E', 'D', 'G', 'E'] =
      some [0x03#8, 0x01#8, 0x01#8, 0x02#8] := by decide +kernel

/-- SEND of VOL_UP has S7's intervals; P1 counts 96000 ticks. -/
theorem test_send_intervals :
    sendIntervals BitTicks.vc 0xF50A59A6#32 = s7.map (·.toNat) ∧ (sendIntervals BitTicks.vc 0xF50A59A6#32).sum = 96000 := by
  decide +kernel

/-! ## Witnesses: the hypotheses of each statement can be met, at the ends of its ranges -/

theorem witness_encode :
    Instr.wf edgeConfig .loud = true ∧ Instr.wf Config.vc .powerOff = true ∧ Instr.wf Config.vc (.noneCmd 0#32) = true ∧
    Instr.wf Config.vc (.reservedEv 0xFF#8) = true := by decide

theorem witness_encode_of_decode : decode Config.vc [0xFF#8] = .ok (.reservedEv 0xFF#8) := by rfl

theorem witness_step_runs :
    ∃ s : State, s.script = [0x03#8] ∧ decode s.cfg [0x03#8] = .ok .loop ∧ Instr.loop.standalone = true :=
  ⟨{ State.reset with script := [0x03#8] }, rfl, rfl, rfl⟩

theorem witness_step_free : State.reset.script = [] := rfl

theorem witness_words_refused :
    (4 ≤ (0x04#8).toNat ∧ (0x04#8).toNat ≤ 7) ∧ (4 ≤ (0x07#8).toNat ∧ (0x07#8).toNat ≤ 7) ∧ 16 ≤ (0x10#8).toNat ∧
    (8 ≤ (0x08#8).toNat ∧ (0x08#8).toNat ≤ 15) ∧ (8 ≤ (0x0F#8).toNat ∧ (0x0F#8).toNat ≤ 15) := by decide

theorem witness_reset_draw : ({ State.reset with draws := [0xFFFF#16] } : State).draws = 0xFFFF#16 :: [] := rfl

theorem witness_config : Config.vc.wf ∧ edgeConfig.wf ∧ ({ Config.vc with minTicks := 3000#16, maxTicks := 3001#16 } : Config).wf := by
  decide

/-- Legal states at the boundary of the timeout: it happens, or fails for each of its three conditions. -/
theorem witness_tick :
    (armedSt 1#9 40000#16).illegal = none ∧ (armedSt 1#9 40000#16).capstat[0] = true ∧
    (armedSt 1#9 40000#16).tcnt = (armedSt 1#9 40000#16).cfg.maxTicks ∧ 1 ≤ (armedSt 1#9 40000#16).count.toNat ∧
    (armedSt 0#9 40000#16).illegal = none ∧ (armedSt 1#9 39999#16).illegal = none ∧ (readySt 1#9 40000#16).illegal = none ∧
    (readySt 1#9 40000#16).capstat[0] = false := by decide

/-- The cases of an EDGE: disabled; t = MIN_TICKS and t = MAX_TICKS at COUNT 255; one below, one above; a full buffer. -/
theorem witness_edge :
    (State.reset.illegal = none ∧ State.reset.capstat[0] = false) ∧
    ((armedSt 255#9 1000#16).illegal = none ∧ (armedSt 255#9 1000#16).capstat[0] = true ∧
      (armedSt 255#9 1000#16).cfg.minTicks ≤ (armedSt 255#9 1000#16).tcnt ∧ (armedSt 255#9 1000#16).count.toNat < 256) ∧
    ((armedSt 0#9 40000#16).illegal = none ∧ (armedSt 0#9 40000#16).tcnt ≤ (armedSt 0#9 40000#16).cfg.maxTicks) ∧
    ((armedSt 4#9 999#16).illegal = none ∧ (armedSt 4#9 999#16).tcnt < (armedSt 4#9 999#16).cfg.minTicks) ∧
    ((armedSt 0#9 40001#16).illegal = none ∧ (armedSt 0#9 40001#16).cfg.maxTicks < (armedSt 0#9 40001#16).tcnt) ∧
    ((armedSt 256#9 1500#16).illegal = none ∧ (armedSt 256#9 1500#16).count.toNat = 256) := by decide

/-- NOISE and OVERFLOW are reported, and a full frame reaches the timeout. -/
theorem witness_edge_status :
    (armedSt 4#9 999#16).edgeStatus = some .noise ∧ (armedSt 256#9 1500#16).edgeStatus = some .overflow ∧
    (armedSt 256#9 40000#16).illegal = none ∧ (armedSt 256#9 40000#16).tcnt = (armedSt 256#9 40000#16).cfg.maxTicks := by
  decide

theorem witness_arm_twice : (armedSt 0#9 5#16).capstat = 0b01#2 ∧ (armedSt 0#9 5#16).count = 0#9 := by decide

/-- Disabled capture in both its states, with an EDGE and a TICK pending. -/
theorem witness_disabled :
    State.reset.illegal = none ∧ State.reset.capstat ≠ 0b01#2 ∧ (readySt 8#9 40000#16).illegal = none ∧
    (readySt 8#9 40000#16).capstat ≠ 0b01#2 ∧ (∀ w ∈ [0x02#8, 0x01#8], w = 0x01#8 ∨ w = 0x02#8) := by decide

/-- An armed frame at TCNT = 0, with the whole window of TICKs pending, or part of it. -/
theorem witness_frame_closes :
    ∃ s : State, s.illegal = none ∧ s.cfg.wf ∧ s.capstat = 0b01#2 ∧ 1 ≤ s.count.toNat ∧ s.tcnt = 0#16 ∧
      s.script = advanceWords (s.cfg.maxTicks.toNat + 1) ++ [] ∧ ∃ rest, s.script = advanceWords 2 ++ rest :=
  ⟨{ armedSt 1#9 0#16 with script := advanceWords (Config.vc.maxTicks.toNat + 1) ++ [] }, by decide, by decide, by decide,
    by decide, rfl, rfl, advanceWords 39999, by
      rw [List.append_nil, advanceWords, advanceWords, advanceWords, List.replicate_append_replicate]; rfl⟩

/-- A frame with 255 samples already recorded, a noise EDGE and an EDGE at MAX_TICKS pending. -/
theorem witness_close_edges :
    ∃ s : State, s.illegal = none ∧ s.cfg.wf ∧ s.capstat = 0b01#2 ∧ s.tcnt = 0#16 ∧ 254 < s.count.toNat ∧
      (∀ g ∈ [0, 40000], g ≤ s.cfg.maxTicks.toNat) ∧ s.script = pulsesWords [0, 40000] ++ [0x03#8] :=
  ⟨{ armedSt 255#9 0#16 with script := pulsesWords [0, 40000] ++ [0x03#8] }, by decide, by decide, by decide, rfl, by decide,
    by decide, rfl⟩

/-- V20's end, in both orders of the race. -/
theorem witness_race :
    (armedSt 1#9 40000#16).illegal = none ∧ (armedSt 1#9 40000#16).cfg.wf ∧ (armedSt 1#9 40000#16).capstat = 0b01#2 ∧
    (armedSt 255#9 40000#16).illegal = none ∧ (armedSt 255#9 40000#16).count.toNat < 256 ∧
    (armedSt 255#9 40000#16).tcnt = (armedSt 255#9 40000#16).cfg.maxTicks := by decide

theorem witness_decode :
    (readySt 31#9 0#16).count.toNat < 32 ∧ 32 ≤ (readySt 32#9 0#16).count.toNat ∧
    (∀ k, k < 32 → (readySt 32#9 0#16).memRead k = (readySt 256#9 7#16).memRead k) :=
  ⟨by decide, by decide, fun _ _ => rfl⟩

/-- The first entry and the last are reached, and a code that matches none. -/
theorem witness_lookup :
    Config.vc.tableEntry 0 = some 0xF50A59A6#32 ∧ Config.vc.tableEntry 6 = some 0xF906FE01#32 ∧
    (∀ i, i < 6 → Config.vc.tableEntry i ≠ some 0xF906FE01#32) ∧ (∀ j, j < 7 → Config.vc.tableEntry j ≠ some 0#32) := by decide

theorem witness_no_entry (j : Nat) : Config.vc.tableEntry j ≠ some 0#32 := by
  by_cases h : j < 7
  · exact witness_lookup.2.2.2 j h
  · have hn : Config.vc.tableEntry j = none := List.getElem?_eq_none (Nat.not_lt.mp h)
    rw [hn]; simp

theorem witness_disjoint : Config.vc.disjoint := by decide

/-- A decoded code of each command, and one of none. -/
theorem witness_dispatch :
    (codeSt 0xF50A59A6#32 254#8 true).decoded = some 0xF50A59A6#32 ∧ Config.vc.lookup 0xF50A59A6#32 = .volUp ∧
    Config.vc.lookup 0xFD02FE01#32 = .volDown ∧ Config.vc.lookup 0xFC03FE01#32 = .mute ∧
    Config.vc.lookup 0xFB04FE01#32 = .loud ∧ Config.vc.lookup 0x27D859A6#32 = .quiet ∧
    Config.vc.lookup 0xFA05FE01#32 = .powerOn ∧ Config.vc.lookup 0xF906FE01#32 = .powerOff ∧
    Config.vc.lookup 0x12345678#32 = .noneCmd ∧ State.reset.decoded = none := by decide

/-- Muted at 254 with VOL_UP decoded, and muted at 1 with VOL_DOWN decoded. -/
theorem witness_unmute_press :
    (codeSt 0xF50A59A6#32 254#8 true).mute = true ∧ (codeSt 0xF50A59A6#32 254#8 true).volume.toNat < 255 ∧
    (codeSt 0xFD02FE01#32 1#8 true).mute = true ∧ 0 < (codeSt 0xFD02FE01#32 1#8 true).volume.toNat := by decide

/-- The three cases of LOOP, and the states it refuses. -/
theorem witness_loop :
    (State.reset.illegal = none ∧ State.reset.lph = .init) ∧
    ((readySt 1#9 0#16).illegal = none ∧ (readySt 1#9 0#16).lph = .run ∧ (readySt 1#9 0#16).capstat = 0b10#2) ∧
    ((armedSt 0#9 0#16).illegal = none ∧ (armedSt 0#9 0#16).capstat ≠ 0b10#2) ∧
    ((st .run 0b11#2 0#9 0#16 0#8 true).capstat = 0b11#2 ∧ 256 < (armedSt 257#9 0#16).count.toNat ∧
      (st .run notArmed 0#9 0#16 0#8 true).capstat = 0b00#2) := by decide

/-- The first LOOP after a reset leaves INIT. -/
theorem witness_loop_init :
    (nextOf (step { State.reset with script := [0x03#8] })).map (·.lph) = some .run ∧ State.reset.lph = .init := by decide

theorem witness_service :
    (readySt 1#9 0#16).capstat = 0b10#2 ∧ (readySt 31#9 0#16).count.toNat < 32 ∧ 32 ≤ (readySt 32#9 0#16).count.toNat ∧
    (readySt 256#9 0#16).count.toNat ≤ 256 := by decide

/-- The three outcomes a frame can report, and a COUNT above CAP. -/
theorem witness_frame_status :
    (readySt 31#9 0#16).frameStatus = some .short ∧ (readySt 32#9 0#16).frameStatus = some .unrecognized ∧
    (State.placeCode 0xFA05FE01#32 State.reset).frameStatus = some .unsupported ∧ 256 < (readySt 257#9 0#16).count.toNat := by
  decide +kernel

/-- A state that violates each of the four invariants. -/
theorem witness_illegal :
    (st .run 0b11#2 0#9 0#16 0#8 true).illegal = some .capstatReserved ∧ (armedSt 257#9 0#16).illegal = some .countOverCap ∧
    (st .run notArmed 0#9 0#16 0#8 true).illegal = some .phaseMismatch ∧
    (st .init armed 0#9 0#16 0#8 true).illegal = some .phaseMismatch ∧
    (readySt 0#9 0#16).illegal = some .frameReadyEmpty := by decide

theorem witness_recovers :
    ∃ s : State, s.illegal = none ∧ s.capstat = 0b10#2 ∧ s.script = 0x03#8 :: [] :=
  ⟨{ readySt 256#9 0#16 with script := [0x03#8] }, by decide, rfl, rfl⟩

/-- A capture in progress that meets the invariant, with a TICK pending that answers a next state. -/
def capturingSt : State :=
  { armedSt 1#9 40000#16 with sample := State.reset.sample.setIfInBounds 0 1500#16, script := [0x01#8] }

theorem capturingSt_frame : capturingSt.frame = [1500#16] := by decide +kernel

theorem witness_inv : capturingSt.Inv where
  config := by decide
  legal := by decide +kernel
  window := fun _ _ => by decide +kernel
  inRange := fun t ht => by
    rw [capturingSt_frame, List.mem_singleton] at ht
    rw [ht]; decide +kernel
  noCode := rfl

theorem witness_inv_steps :
    (∃ t, step capturingSt = .next t) ∧ (∀ w ∈ capturingSt.script, standaloneWord w) ∧ capturingSt.capstat = 0b01#2 ∧
    1 ≤ capturingSt.count.toNat :=
  ⟨⟨_, step_tick rfl (by decide)⟩, by decide, rfl, by decide⟩

/-- LOOP while ARMED, and TICK and EDGE while not, each with a next state. -/
theorem witness_single_writer :
    ((nextOf (exec .loop (armedSt 5#9 7#16))).isSome = true ∧ (armedSt 5#9 7#16).lph = .run) ∧
    (nextOf (exec .tick (readySt 5#9 7#16))).isSome = true ∧ (nextOf (exec .edge (readySt 5#9 7#16))).isSome = true ∧
    (readySt 5#9 7#16).capstat ≠ 0b01#2 := by decide

theorem witness_handler :
    (nextOf (exec .edge (armedSt 5#9 1500#16))).isSome = true ∧ (nextOf (exec .timeout (armedSt 5#9 7#16))).isSome = true ∧
    (nextOf (exec .tick (armedSt 5#9 40000#16))).isSome = true := by decide

/-- A step that changes the Gain Profile: the service of a frame of QUIET. -/
theorem witness_gain_changes :
    (nextOf (step (State.reset.withFetchWord 32 0x27D859A6))).map (·.volume) ≠ some (State.reset.withFetchWord 32 0x27D859A6).volume := by
  decide +kernel

/-- Two different states that differ only in a stale sample. -/
theorem witness_stale :
    State.SameButStale (armedSt 5#9 7#16) { armedSt 5#9 7#16 with sample := State.reset.sample.setIfInBounds 5 9#16 } ∧
    (State.reset.sample.setIfInBounds 5 9#16)[5] ≠ State.reset.sample[5] :=
  ⟨⟨rfl, by decide +kernel⟩, by decide +kernel⟩

theorem witness_unobservable : ∃ t, step capturingSt = .next t := witness_inv_steps.1

theorem witness_commute :
    (readySt 32#9 7#16).illegal = none ∧ (readySt 32#9 7#16).capstat[0] = false := by decide

/-- The state a FRAME starts from, with a FRAME of the two ends of the range pending; and the reset of R73's last sentence. -/
theorem witness_frame_script :
    ∃ s : State, s.cfg.wf ∧ s.FramePre ∧ (∀ x ∈ [1000, 40000], s.cfg.minTicks.toNat ≤ x ∧ x ≤ s.cfg.maxTicks.toNat) ∧
      s.script = frameWords s.cfg [1000, 40000] ++ [] ∧ (999#16 : Ticks) < s.cfg.minTicks :=
  ⟨{ armedSt 0#9 40001#16 with script := frameWords Config.vc [1000, 40000] ++ [] }, by decide, by decide, by decide, rfl,
    by decide⟩

theorem witness_send :
    ∃ s : State, s.cfg.wf ∧ BitTicks.vc.wf s.cfg ∧ s.FramePre ∧
      s.script = (ScriptLine.send 0xF50A59A6#32).words s.cfg BitTicks.vc ++ [] :=
  ⟨{ armedSt 0#9 40001#16 with script := (ScriptLine.send 0xF50A59A6#32).words Config.vc BitTicks.vc ++ [] }, by decide,
    by decide, by decide, rfl⟩

/-- A fair schedule with neither EDGE nor RESET: TICK and LOOP in turn. -/
def alternate : Schedule := fun n => if n % 2 = 0 then 0x01#8 else 0x03#8

theorem witness_fair : alternate.Fair ∧ ∀ n, alternate n = 0x01#8 ∨ alternate n = 0x03#8 := by
  refine ⟨⟨fun n => ⟨2 * n, by omega, ?_⟩, fun n => ⟨2 * n + 1, by omega, ?_⟩⟩, fun n => ?_⟩
  · simp [alternate]
  · simp only [alternate]; rw [if_neg (by omega)]
  · simp only [alternate]; split <;> simp

end Sys2Proof.Tests
end

section
/-! EDGE_POLARITY and TICK_PERIOD are read by nothing (R7, D28, D29): changing them commutes with the fetch, with every shared
operation, with every row of `exec`, and so with a step. -/

namespace Sys2Proof.Machine

variable (p : EdgePolarity) (d : Nat) (s : State)

/-- The same outcome, with the next state changed by `f`; a refusal stays as it is. -/
def mapNext (f : State → State) : Host.Outcome State Fault Refusal → Host.Outcome State Fault Refusal
  | .next s => .next (f s)
  | .fault r => .fault r
  | .refused r => .refused r

/-! ## What reads nothing of the two parameters -/

@[simp] theorem State.withUnobservable_observe : (s.withUnobservable p d).observe = s.observe := rfl

@[simp] theorem State.withUnobservable_lookup (code : Code) :
    (s.withUnobservable p d).cfg.lookup code = s.cfg.lookup code := rfl

@[simp] theorem State.withUnobservable_nextWord : (s.withUnobservable p d).nextWord = s.nextWord := rfl

@[simp] theorem State.withUnobservable_illegal : (s.withUnobservable p d).illegal = s.illegal := rfl

/-! ## What commutes with changing them -/

theorem State.withUnobservable_afterFetch :
    (s.withUnobservable p d).afterFetch = s.afterFetch.withUnobservable p d := by
  cases h : s.script <;> simp [State.afterFetch, State.withUnobservable, h]

theorem State.withUnobservable_timeoutEffect :
    (s.withUnobservable p d).timeoutEffect = s.timeoutEffect.withUnobservable p d := by
  unfold State.timeoutEffect
  rw [apply_ite (State.withUnobservable p d)]
  rfl

theorem State.withUnobservable_captureEffect :
    (s.withUnobservable p d).captureEffect = s.captureEffect.withUnobservable p d := by
  simp only [State.captureEffect, apply_ite (State.withUnobservable p d)]
  rfl

theorem State.withUnobservable_runHandler (e : HandlerEvent) :
    (s.withUnobservable p d).runHandler e = (s.runHandler e).withUnobservable p d := by
  unfold State.runHandler
  rw [apply_ite (State.withUnobservable p d)]
  cases e with
  | capture => rw [State.withUnobservable_captureEffect]; rfl
  | timeout => rw [State.withUnobservable_timeoutEffect]; rfl

theorem State.withUnobservable_tickEffect :
    (s.withUnobservable p d).tickEffect = s.tickEffect.withUnobservable p d := by
  simp only [State.tickEffect, apply_ite (State.withUnobservable p d), ← State.withUnobservable_runHandler]
  rfl

theorem State.withUnobservable_volUpAction :
    (s.withUnobservable p d).volUpAction = s.volUpAction.withUnobservable p d := by
  unfold State.volUpAction
  rw [apply_ite (State.withUnobservable p d)]
  rfl

theorem State.withUnobservable_volDownAction :
    (s.withUnobservable p d).volDownAction = s.volDownAction.withUnobservable p d := by
  unfold State.volDownAction
  rw [apply_ite (State.withUnobservable p d)]
  rfl

theorem State.withUnobservable_commandAction (code : Code) (cmd : Cmd) :
    (s.withUnobservable p d).commandAction code cmd = (s.commandAction code cmd).withUnobservable p d := by
  cases cmd with
  | volUp => exact s.withUnobservable_volUpAction p d
  | volDown => exact s.withUnobservable_volDownAction p d
  | mute | loud | quiet | powerOn | powerOff | noneCmd => rfl

theorem State.withUnobservable_dispatchCode (code : Code) :
    (s.withUnobservable p d).dispatchCode code = (s.dispatchCode code).withUnobservable p d := by
  by_cases h : s.cfg.lookup code = .noneCmd
  · rw [State.dispatchCode_unrecognized s h, State.dispatchCode_unrecognized (s.withUnobservable p d) h]
    rfl
  · rw [State.dispatchCode_recognized s h, State.dispatchCode_recognized (s.withUnobservable p d) h,
      State.withUnobservable_lookup, State.withUnobservable_commandAction]
    rfl

theorem State.withUnobservable_dispatchEffect :
    (s.withUnobservable p d).dispatchEffect = s.dispatchEffect.withUnobservable p d := by
  have hd : (s.withUnobservable p d).decoded = s.decoded := rfl
  unfold State.dispatchEffect
  rw [hd]
  cases s.decoded with
  | none => rfl
  | some code => exact s.withUnobservable_dispatchCode p d code

theorem State.withUnobservable_serviceFrameEffect :
    (s.withUnobservable p d).serviceFrameEffect = s.serviceFrameEffect.withUnobservable p d := by
  have hd : (s.withUnobservable p d).decodeFrame = s.decodeFrame := rfl
  cases h : s.decodeFrame with
  | none =>
    rw [State.serviceFrameEffect_short s h, State.serviceFrameEffect_short _ (hd.trans h)]
    rfl
  | some code =>
    have hr : (s.withUnobservable p d).reported code = (s.reported code).withUnobservable p d := rfl
    rw [State.serviceFrameEffect_valid s h, State.serviceFrameEffect_valid _ (hd.trans h), hr,
      State.withUnobservable_dispatchEffect]
    rfl

/-! ## The operations -/

theorem execTick_withUnobservable :
    execTick (s.withUnobservable p d) = mapNext (State.withUnobservable p d) (execTick s) := by
  unfold execTick
  rw [State.withUnobservable_illegal, State.withUnobservable_tickEffect]
  cases s.illegal <;> rfl

theorem execEdge_withUnobservable :
    execEdge (s.withUnobservable p d) = mapNext (State.withUnobservable p d) (execEdge s) := by
  unfold execEdge
  rw [State.withUnobservable_illegal, State.withUnobservable_runHandler]
  cases s.illegal <;> rfl

theorem execServiceFrame_withUnobservable :
    execServiceFrame (s.withUnobservable p d) = mapNext (State.withUnobservable p d) (execServiceFrame s) := by
  unfold execServiceFrame
  rw [State.withUnobservable_serviceFrameEffect, apply_ite (mapNext _)]
  rfl

theorem execLoop_withUnobservable :
    execLoop (s.withUnobservable p d) = mapNext (State.withUnobservable p d) (execLoop s) := by
  unfold execLoop
  rw [State.withUnobservable_illegal, execServiceFrame_withUnobservable]
  cases s.illegal with
  | some why => rfl
  | none =>
    simp only [apply_ite (mapNext _)]
    rfl

/-- Every operation, alone or as part of a step, has the same outcome under other values of the two parameters. -/
theorem exec_withUnobservable (i : Instr) :
    exec i (s.withUnobservable p d) = mapNext (State.withUnobservable p d) (exec i s) := by
  cases i with
  | tick => exact execTick_withUnobservable p d s
  | edge => exact execEdge_withUnobservable p d s
  | loop => exact execLoop_withUnobservable p d s
  | serviceFrame => exact execServiceFrame_withUnobservable p d s
  | timeout => exact congrArg Host.Outcome.next (s.withUnobservable_timeoutEffect p d)
  | dispatch => exact congrArg Host.Outcome.next (s.withUnobservable_dispatchEffect p d)
  | volUp => exact congrArg Host.Outcome.next (s.withUnobservable_volUpAction p d)
  | volDown => exact congrArg Host.Outcome.next (s.withUnobservable_volDownAction p d)
  | reset | loopInit | poll | arm | decode | actuate | reservedEv | mute | loud | quiet | powerOn | powerOff | noneCmd => rfl

/-- A step, refusals included, is the same step under other values of the two parameters. -/
theorem step_withUnobservable : step (s.withUnobservable p d) = mapNext (State.withUnobservable p d) (step s) := by
  unfold step
  rw [State.withUnobservable_nextWord, State.withUnobservable_afterFetch]
  simp only [exec_withUnobservable, apply_ite (mapNext _)]
  rfl

/-- Settles O50: a step commutes with changing the two parameters, and no observation reads the configuration. -/
theorem polarityAndPeriodAreUnobservable : Obligations.PolarityAndPeriodAreUnobservable := by
  intro p d s t h
  exact ⟨by rw [step_withUnobservable, h]; rfl, t.withUnobservable_observe p d⟩

end Sys2Proof.Machine
end

section
/-! What each part of a step leaves alone, and what a step does to the invariant, to the configuration, and to each piece of
state that has named writers (10_state.md R21 to R36). -/

namespace Sys2Proof.Machine

/-! ## What the parts of a step leave alone -/

section Keeps

variable (s : State) (e : HandlerEvent)

@[simp] theorem State.afterFetch_cfg : s.afterFetch.cfg = s.cfg := by rw [s.afterFetch_writes]
@[simp] theorem State.afterFetch_lph : s.afterFetch.lph = s.lph := by rw [s.afterFetch_writes]
@[simp] theorem State.afterFetch_capstat : s.afterFetch.capstat = s.capstat := by rw [s.afterFetch_writes]
@[simp] theorem State.afterFetch_count : s.afterFetch.count = s.count := by rw [s.afterFetch_writes]
@[simp] theorem State.afterFetch_sample : s.afterFetch.sample = s.sample := by rw [s.afterFetch_writes]
@[simp] theorem State.afterFetch_tcnt : s.afterFetch.tcnt = s.tcnt := by rw [s.afterFetch_writes]
@[simp] theorem State.afterFetch_volume : s.afterFetch.volume = s.volume := by rw [s.afterFetch_writes]
@[simp] theorem State.afterFetch_mute : s.afterFetch.mute = s.mute := by rw [s.afterFetch_writes]

/-- TICK writes TCNT and at most CAPSTAT. -/
theorem State.tickEffect_writes :
    s.tickEffect = { s with tcnt := s.tcnt + 1#16, capstat := s.tickEffect.capstat } := by
  rw [State.tickEffect_eq]
  split <;> rfl

@[simp] theorem State.tickEffect_cfg : s.tickEffect.cfg = s.cfg := by rw [s.tickEffect_writes]
@[simp] theorem State.tickEffect_lph : s.tickEffect.lph = s.lph := by rw [s.tickEffect_writes]
@[simp] theorem State.tickEffect_count : s.tickEffect.count = s.count := by rw [s.tickEffect_writes]
@[simp] theorem State.tickEffect_sample : s.tickEffect.sample = s.sample := by rw [s.tickEffect_writes]
@[simp] theorem State.tickEffect_tcnt : s.tickEffect.tcnt = s.tcnt + 1#16 := by rw [s.tickEffect_writes]
@[simp] theorem State.tickEffect_volume : s.tickEffect.volume = s.volume := by rw [s.tickEffect_writes]
@[simp] theorem State.tickEffect_mute : s.tickEffect.mute = s.mute := by rw [s.tickEffect_writes]

/-- While CAPEN = 0, TICK only counts (R146). -/
theorem State.tickEffect_masked (h : s.capen = false) : s.tickEffect = s.setTcnt (s.tcnt + 1#16) := by
  rw [State.tickEffect_eq, if_neg (by simp [h])]
  rfl

/-- What an EDGE does that records its interval (R82): the interval goes to SAMPLE[COUNT], and COUNT and TCNT move on. -/
def State.record : State :=
  { s with tcnt := 0#16, sample := s.sample.setIfInBounds s.count.toNat s.tcnt, count := s.count + 1#9 }

/-- An enabled EDGE records an interval in range while there is room; any other it only measures. -/
theorem State.captureEffect_eq :
    s.captureEffect =
      if validInterval s.cfg s.tcnt = true ∧ s.count.toNat < cap then s.record else s.setTcnt 0#16 := by
  obtain ⟨hv, hc, h⟩ | ⟨hn, h⟩ := s.captureEffect_cases
  · rw [if_pos ⟨hv, hc⟩, h]
    rfl
  · have hno : ¬ (validInterval s.cfg s.tcnt = true ∧ s.count.toNat < cap) := by
      rintro ⟨hv, hc⟩
      obtain hn | hn := hn
      · exact absurd (hv.symm.trans hn) (by decide)
      · omega
    rw [if_neg hno, h]
    rfl

/-- The capture handler writes TCNT, COUNT, SAMPLE and CAPSTAT at most (R89). -/
theorem State.runHandler_writes :
    s.runHandler e = { s with
      tcnt := (s.runHandler e).tcnt
      count := (s.runHandler e).count
      sample := (s.runHandler e).sample
      capstat := (s.runHandler e).capstat } := by
  unfold State.runHandler
  split
  · cases e with
    | capture => simp only [State.captureEffect_eq]; split <;> rfl
    | timeout => simp only [State.timeoutEffect_eq]; split <;> rfl
  · rfl

@[simp] theorem State.runHandler_cfg : (s.runHandler e).cfg = s.cfg := by rw [s.runHandler_writes]
@[simp] theorem State.runHandler_lph : (s.runHandler e).lph = s.lph := by rw [s.runHandler_writes]
@[simp] theorem State.runHandler_volume : (s.runHandler e).volume = s.volume := by rw [s.runHandler_writes]
@[simp] theorem State.runHandler_mute : (s.runHandler e).mute = s.mute := by rw [s.runHandler_writes]

/-- An enabled EDGE is the capture (R146). -/
theorem State.runHandler_capture_enabled (h : s.capen = true) : s.runHandler .capture = s.captureEffect := by
  simp [State.runHandler, h]

/-- The capture resets TCNT, whether or not it records (R82). -/
@[simp] theorem State.captureEffect_tcnt : s.captureEffect.tcnt = 0#16 := by
  rw [State.captureEffect_eq]
  split <;> rfl

@[simp] theorem State.resetEffect_cfg : s.resetEffect.cfg = s.cfg := rfl
@[simp] theorem State.resetEffect_lph : s.resetEffect.lph = .init := rfl

@[simp] theorem State.loopInitEffect_cfg : s.loopInitEffect.cfg = s.cfg := rfl
@[simp] theorem State.loopInitEffect_lph : s.loopInitEffect.lph = .run := rfl
@[simp] theorem State.loopInitEffect_tcnt : s.loopInitEffect.tcnt = s.tcnt := rfl
@[simp] theorem State.loopInitEffect_volume : s.loopInitEffect.volume = s.volume := rfl
@[simp] theorem State.loopInitEffect_mute : s.loopInitEffect.mute = s.mute := rfl

@[simp] theorem State.serviceFrameEffect_cfg : s.serviceFrameEffect.cfg = s.cfg := by
  rw [s.serviceFrameEffect_writes]
@[simp] theorem State.serviceFrameEffect_lph : s.serviceFrameEffect.lph = s.lph := by
  rw [s.serviceFrameEffect_writes]
@[simp] theorem State.serviceFrameEffect_tcnt : s.serviceFrameEffect.tcnt = s.tcnt := by
  rw [s.serviceFrameEffect_writes]

end Keeps

/-! ## The frame -/

theorem State.frame_of_count_zero {s : State} (h : s.count = 0#9) : s.frame = [] := by
  simp [State.frame, h]

/-- Recording appends the interval to the frame, and leaves every earlier sample (R82). -/
theorem State.frame_record {s : State} (h : s.count.toNat < cap) : s.record.frame = s.frame ++ [s.tcnt] := by
  have hc : (s.count + 1#9).toNat = s.count.toNat + 1 := by rw [cap_eq] at h; bv_omega
  simp only [State.frame, State.record, hc, Vector.toList_setIfInBounds]
  rw [List.take_add_one, List.take_set_of_le (Nat.le_refl _)]
  simp [h]

/-! ## The invariant -/

/-- Every state with the reset values of LPH, CAPSTAT, COUNT and CODE_VALID meets the invariant (R35, R36). -/
theorem State.inv_of_reset_values {s : State} (hw : s.cfg.wf) (hl : s.lph = .init) (hs : s.capstat = notArmed)
    (hc : s.count = 0#9) (hd : s.decoded = none) : s.Inv where
  config := hw
  legal := by rw [State.illegal_eq_none_iff, hl, hs, hc]; decide
  window ha := by simp [hs] at ha
  inRange := by simp [State.frame_of_count_zero hc]
  noCode := hd

/-- Every state that has just been armed meets the invariant (R86, R122, R124). -/
theorem State.inv_of_armed_empty {s : State} (hw : s.cfg.wf) (hl : s.lph = .run) (hs : s.capstat = armed)
    (hc : s.count = 0#9) (hd : s.decoded = none) : s.Inv where
  config := hw
  legal := by rw [State.illegal_eq_none_iff, hl, hs, hc]; decide
  window _ hn := absurd hc hn
  inRange := by simp [State.frame_of_count_zero hc]
  noCode := hd

/-- Settles O8: `State.resetWith` has the reset values whatever it is given, and VC is a configuration R8 allows. -/
theorem resetMeetsTheInvariant : Obligations.ResetMeetsTheInvariant := by
  have h (c : Config) (tcnt : Ticks) (sample : Vector Ticks cap) (hw : c.wf) : (State.resetWith c tcnt sample).Inv :=
    State.inv_of_reset_values hw rfl rfl rfl rfl
  exact ⟨h, h _ _ _ (by decide)⟩

section Inv

variable {s : State} (h : s.Inv)
include h

theorem State.Inv.afterFetch : s.afterFetch.Inv := by
  rw [s.afterFetch_writes]
  exact ⟨h.config, h.legal, h.window, h.inRange, h.noCode⟩

theorem State.Inv.resetEffect : s.resetEffect.Inv :=
  State.inv_of_reset_values h.config rfl rfl rfl rfl

theorem State.Inv.loopInitEffect : s.loopInitEffect.Inv := by
  rw [State.loopInitEffect_eq]
  exact State.inv_of_armed_empty h.config rfl rfl rfl h.noCode

theorem State.Inv.serviceFrameEffect (hl : s.lph = .run) : s.serviceFrameEffect.Inv := by
  rw [State.serviceFrameEffect_writes]
  exact State.inv_of_armed_empty h.config hl rfl rfl rfl

/-- In a state that meets the invariant, CAPEN = 1 is CAPSTAT = ARMED. -/
theorem State.Inv.capen_iff_armed : s.capen = true ↔ s.capstat = armed :=
  State.capen_iff_armed ((s.illegal_eq_none_iff).mp h.legal).1

/-- The timeout of a frame of at least one sample (R84): FRAME_READY with COUNT ≥ 1 is legal, and the fifth invariant of R36
asks nothing of a closed frame. -/
theorem State.Inv.closeFrame (ha : s.capstat = armed) (hn : s.count ≠ 0#9) (t : Ticks) :
    ({ s with tcnt := t, capstat := frameReady } : State).Inv where
  config := h.config
  legal := by
    have hlegal := h.legal
    rw [State.illegal_eq_none_iff, ha] at hlegal
    obtain ⟨-, hcap, hl, -⟩ := hlegal
    have hphase : armed = notArmed ↔ frameReady = notArmed := by decide
    rw [State.illegal_eq_none_iff]
    exact ⟨(by decide : frameReady ≠ capstatReserved), hcap, hl.trans hphase, fun _ => hn⟩
  window hf := absurd hf (by decide : frameReady ≠ armed)
  inRange := h.inRange
  noCode := h.noCode

/-- TICK: the tick that would carry TCNT past MAX_TICKS with a sample recorded closes the frame, so the fifth invariant of R36
holds of every frame still open. -/
theorem State.Inv.tickEffect : s.tickEffect.Inv := by
  rw [State.tickEffect_eq]
  split
  case isTrue hc =>
    obtain ⟨hen, -, hn⟩ := hc
    exact h.closeFrame (h.capen_iff_armed.mp hen) hn _
  case isFalse hc =>
    refine ⟨h.config, h.legal, fun ha hn => ?_, h.inRange, h.noCode⟩
    have hne : s.tcnt ≠ s.cfg.maxTicks := fun he => hc ⟨h.capen_iff_armed.mpr ha, he, hn⟩
    have hle : s.tcnt ≤ s.cfg.maxTicks := h.window ha hn
    show s.tcnt + 1#16 ≤ s.cfg.maxTicks
    bv_omega

/-- Recording a valid interval while ARMED with room left. -/
theorem State.Inv.record (ha : s.capstat = armed) (hv : validInterval s.cfg s.tcnt = true) (hc : s.count.toNat < cap) :
    s.record.Inv where
  config := h.config
  legal := by
    obtain ⟨hr, -, hl, -⟩ := (s.illegal_eq_none_iff).mp h.legal
    rw [State.illegal_eq_none_iff]
    refine ⟨hr, ?_, hl, fun hf => absurd (ha.symm.trans hf) (by decide)⟩
    show (s.count + 1#9).toNat ≤ cap
    rw [cap_eq] at hc ⊢
    bv_omega
  window _ _ := Nat.zero_le _
  inRange t ht := by
    rw [State.frame_record hc, List.mem_append, List.mem_singleton] at ht
    obtain ht | rfl := ht
    · exact h.inRange t ht
    · exact hv
  noCode := h.noCode

/-- EDGE: it is lost, it records a valid interval, or it only resets TCNT. -/
theorem State.Inv.runHandler_capture : (s.runHandler .capture).Inv := by
  cases hen : s.capen with
  | false => rwa [State.runHandler_masked _ hen]
  | true =>
    rw [State.runHandler_capture_enabled s hen, State.captureEffect_eq]
    split
    case isTrue hc => exact h.record (h.capen_iff_armed.mp hen) hc.1 hc.2
    case isFalse => exact ⟨h.config, h.legal, fun _ _ => Nat.zero_le _, h.inRange, h.noCode⟩

end Inv

/-- Settles O43: each operation a step can be keeps the invariant. -/
theorem stepKeepsTheInvariant : Obligations.StepKeepsTheInvariant := by
  intro s t h hst
  have hf := h.afterFetch
  obtain ⟨-, rfl⟩ | ⟨-, -, rfl⟩ | ⟨-, -, rfl⟩ | ⟨-, -, -, rfl⟩ | ⟨-, -, hl, -, rfl⟩ | ⟨-, -, -, -, rfl⟩ :=
    step_next_inv hst
  · exact hf.resetEffect
  · exact hf.tickEffect
  · exact hf.runHandler_capture
  · exact hf.loopInitEffect
  · exact hf.serviceFrameEffect (by simpa using hl)
  · exact hf

/-! ## What a step can change -/

/-- No step writes the configuration (R7, R29). -/
theorem step_keeps_cfg {s t : State} (h : step s = .next t) : t.cfg = s.cfg := by
  obtain ⟨-, rfl⟩ | ⟨-, -, rfl⟩ | ⟨-, -, rfl⟩ | ⟨-, -, -, rfl⟩ | ⟨-, -, -, -, rfl⟩ | ⟨-, -, -, -, rfl⟩ :=
    step_next_inv h <;> simp

/-- Settles O23: the table is read off the configuration, which no step writes. -/
theorem commandTableIsConstant : Obligations.CommandTableIsConstant :=
  ⟨fun _ => rfl, fun _ _ => step_keeps_cfg⟩

/-- Settles O47: of the six things a step can be, RESET and LOOP_INIT alone write LPH, and RESET, TICK and an enabled EDGE alone
write TCNT. -/
theorem phaseAndTimerChangeOnlyAsNamed : Obligations.PhaseAndTimerChangeOnlyAsNamed := by
  intro s t h
  obtain ⟨hw, rfl⟩ | ⟨-, hw, rfl⟩ | ⟨-, hw, rfl⟩ | ⟨-, hw, hl, rfl⟩ | ⟨-, -, -, -, rfl⟩ | ⟨-, -, -, -, rfl⟩ :=
    step_next_inv h
  case inl => simp [hw]
  case inr.inl => simp [hw]
  case inr.inr.inl =>
    refine ⟨.inl (by simp), ?_⟩
    have hen : s.afterFetch.capen = s.capen := State.capen_congr s.afterFetch_capstat
    cases hc : s.capen with
    | false => exact .inl (by simp [State.runHandler_masked _ (hen.trans hc)])
    | true => exact .inr (.inr (.inr ⟨by simp [hw], hc, by simp [State.runHandler_capture_enabled _ (hen.trans hc)]⟩))
  case inr.inr.inr.inl => simp [hw, hl]
  all_goals simp

/-- A frame of fewer than 32 samples leaves the Gain Profile (R142). -/
theorem State.serviceFrameEffect_short_keeps_gain {s : State} (h : s.count.toNat < nsamp) :
    s.serviceFrameEffect.volume = s.volume ∧ s.serviceFrameEffect.mute = s.mute := by
  rw [State.serviceFrameEffect_short s (by rw [State.decodeFrame, if_pos h])]
  exact ⟨rfl, rfl⟩

/-- Settles O48: of the operations other than RESET only SERVICE_FRAME can write VOLUME or MUTE, and only of a frame that
decodes. -/
theorem gainProfileChangesOnlyByDispatch : Obligations.GainProfileChangesOnlyByDispatch := by
  intro s t h hne
  obtain ⟨hw, rfl⟩ | ⟨-, -, rfl⟩ | ⟨-, -, rfl⟩ | ⟨-, -, -, rfl⟩ | ⟨-, hw, hl, hs, rfl⟩ | ⟨-, -, -, -, rfl⟩ :=
    step_next_inv h
  case inl => exact .inl (by simp [hw])
  case inr.inr.inr.inr.inl =>
    refine .inr ⟨by simp [hw], hl, hs, Nat.not_lt.mp fun hc => ?_⟩
    have hk := s.afterFetch.serviceFrameEffect_short_keeps_gain (by simpa using hc)
    simp [hk] at hne
  all_goals simp at hne

/-! ## Legal states and the single writer -/

/-- Settles O41: `State.illegal` tests the four conditions, and each of the three operations asks it first. -/
theorem illegalStatesAreRefused : Obligations.IllegalStatesAreRefused := by
  intro s
  constructor
  · have hc : 1 ≤ s.count.toNat ↔ s.count ≠ 0#9 := by bv_omega
    rw [State.illegal_eq_none_iff, hc]
    tauto
  · intro why h i hi
    obtain rfl | rfl | rfl := hi <;> simp [exec, execTick, execEdge, execLoop, h]

/-- An operation that answers a next state and asks for a legal state first had one. -/
theorem legal_of_exec_next {i : Instr} {s t : State} (hi : i = .tick ∨ i = .edge ∨ i = .loop)
    (h : exec i s = .next t) : s.illegal = none := by
  by_contra hn
  obtain ⟨why, hw⟩ := Option.ne_none_iff_exists'.mp hn
  simp [(illegalStatesAreRefused s).2 why hw i hi] at h

/-- Settles O45: a LOOP while ARMED is a POLL, and a TICK or EDGE while not ARMED comes with CAPEN = 0, so its event is lost. -/
theorem captureStateHasASingleWriter : Obligations.CaptureStateHasASingleWriter := by
  rintro i s t h (⟨rfl, hl, ha⟩ | ⟨hi, hn⟩)
  · have hlegal := legal_of_exec_next (by simp) h
    have hne : armed ≠ frameReady := by decide
    obtain rfl : s = t := by simpa [exec, execLoop, execPoll, hlegal, hl, ha, hne] using h
    exact ⟨rfl, rfl, rfl⟩
  · have hlegal := legal_of_exec_next (hi.imp_right .inl) h
    have hen : s.capen = false := by
      rw [Bool.eq_false_iff, Ne, State.capen_iff_armed ((s.illegal_eq_none_iff).mp hlegal).1]
      exact hn
    obtain rfl | rfl := hi
    · obtain rfl : s.setTcnt (s.tcnt + 1#16) = t := by
        simpa [exec, execTick, hlegal, State.tickEffect_masked s hen] using h
      exact ⟨rfl, rfl, rfl⟩
    · obtain rfl : s = t := by simpa [exec, execEdge, hlegal, State.runHandler_masked _ hen] using h
      exact ⟨rfl, rfl, rfl⟩

end Sys2Proof.Machine
end

section
/-! Samples at an index not below COUNT are never observed (R26, R27): every operation takes two states that differ only there to
two states that differ only there, or refuses both for one reason. -/

namespace Sys2Proof.Machine

/-- The same state with other contents of the Sample Buffer. -/
def State.withSample (v : Vector Ticks cap) (s : State) : State := { s with sample := v }

/-- A packed word depends on the bits below its width alone. -/
theorem packBits_congr {f g : Nat → Bool} {n : Nat} (h : ∀ k, k < n → f k = g k) : packBits f n = packBits g n := by
  induction n with
  | zero => rfl
  | succ n ih => rw [packBits, packBits, h n n.lt_succ_self, ih fun k hk => h k (by omega)]

/-- TIMEOUT writes CAPSTAT at most (R84). -/
theorem State.timeoutEffect_writes (s : State) : s.timeoutEffect = { s with capstat := s.timeoutEffect.capstat } := by
  rw [State.timeoutEffect_eq]
  split <;> rfl

/-- A run ends at its first refusal. -/
theorem State.run_succ_of_refused {s : State} {r : Refusal} (n : Nat) (h : step s = .refused r) :
    s.run (n + 1) = .refused r := by
  have h' : Sys2Proof.core.step s = .refused r := h
  simp only [State.run, Host.Core.run, h']
  rfl

/-! ## What commutes with changing the Sample Buffer -/

section Commute

variable (v : Vector Ticks cap) (s : State)

theorem State.withSample_afterFetch : (s.withSample v).afterFetch = s.afterFetch.withSample v := by
  cases h : s.script <;> simp [State.afterFetch, State.withSample, h]

theorem State.withSample_timeoutEffect : (s.withSample v).timeoutEffect = s.timeoutEffect.withSample v := by
  unfold State.timeoutEffect
  rw [apply_ite (State.withSample v)]
  rfl

theorem State.withSample_tickEffect : (s.withSample v).tickEffect = s.tickEffect.withSample v := by
  simp only [State.tickEffect_eq, apply_ite (State.withSample v)]
  rfl

theorem State.withSample_commandAction (code : Code) (cmd : Cmd) :
    (s.withSample v).commandAction code cmd = (s.commandAction code cmd).withSample v := by
  cases cmd with
  | volUp | volDown =>
    simp only [State.commandAction, State.volUpAction, State.volDownAction, apply_ite (State.withSample v)]
    rfl
  | mute | loud | quiet | powerOn | powerOff | noneCmd => rfl

theorem State.withSample_dispatchCode (code : Code) :
    (s.withSample v).dispatchCode code = (s.dispatchCode code).withSample v := by
  have hl : (s.withSample v).cfg.lookup code = s.cfg.lookup code := rfl
  by_cases h : s.cfg.lookup code = .noneCmd
  · rw [State.dispatchCode_unrecognized s h, State.dispatchCode_unrecognized _ (hl.trans h)]
    rfl
  · rw [State.dispatchCode_recognized s h, State.dispatchCode_recognized _ (hl ▸ h), hl,
      State.withSample_commandAction]
    rfl

theorem State.withSample_dispatchEffect : (s.withSample v).dispatchEffect = s.dispatchEffect.withSample v := by
  have hd : (s.withSample v).decoded = s.decoded := rfl
  unfold State.dispatchEffect
  rw [hd]
  cases s.decoded with
  | none => rfl
  | some code => exact s.withSample_dispatchCode v code

end Commute

/-! ## The relation -/

/-- Two states that differ only in stale samples, as one state under two buffers. -/
theorem State.SameButStale.exists_withSample {s t : State} (h : s.SameButStale t) :
    ∃ v, t = s.withSample v ∧ (s.withSample v).frame = s.frame := by
  obtain ⟨ht, hf⟩ := h
  exact ⟨t.sample, ht, by rwa [ht] at hf⟩

/-- An operation that leaves SAMPLE and COUNT leaves what is stale. -/
theorem State.sameButStale_of_keeps {s s' : State} {v : Vector Ticks cap} (hf : (s.withSample v).frame = s.frame)
    (hs : s'.sample = s.sample) (hc : s'.count = s.count) : s'.SameButStale (s'.withSample v) := by
  refine ⟨rfl, ?_⟩
  calc (s'.withSample v).frame = (s.withSample v).frame := State.frame_congr rfl hc
    _ = s.frame := hf
    _ = s'.frame := (State.frame_congr hs hc).symm

/-- With COUNT = 0 the whole buffer is stale. -/
theorem State.sameButStale_of_count_zero {s : State} (v : Vector Ticks cap) (hc : s.count = 0#9) :
    s.SameButStale (s.withSample v) :=
  ⟨rfl, by rw [State.frame_of_count_zero hc, State.frame_of_count_zero (s := s.withSample v) hc]⟩

/-- No observation sees a stale sample (R12). -/
theorem State.SameButStale.observe_eq {s t : State} (h : s.SameButStale t) : s.observe = t.observe := by
  obtain ⟨v, rfl, hf⟩ := h.exists_withSample
  simp only [State.observe, hf]
  rfl

/-- DECODE reads samples below COUNT only: it decodes nothing of fewer than 32, and else reads the first 32 (R90). -/
theorem State.decodeFrame_withSample {s : State} {v : Vector Ticks cap} (hf : (s.withSample v).frame = s.frame) :
    (s.withSample v).decodeFrame = s.decodeFrame := by
  have hc : (s.withSample v).count = s.count := rfl
  unfold State.decodeFrame
  rw [hc]
  split
  case isTrue => rfl
  case isFalse hn =>
    refine congrArg some (packBits_congr fun k hk => State.codeBit_congr ?_)
    have hk' : k < s.count.toNat := by omega
    rw [← State.frame_getElem? s hk', ← State.frame_getElem? (s.withSample v) hk', hf]

/-! ## The operations -/

section Effects

variable {s t : State} (h : s.SameButStale t)
include h

theorem State.SameButStale.afterFetch : s.afterFetch.SameButStale t.afterFetch := by
  obtain ⟨v, rfl, hf⟩ := h.exists_withSample
  rw [State.withSample_afterFetch]
  exact State.sameButStale_of_keeps hf s.afterFetch_sample s.afterFetch_count

/-- RESET gives both states the same unspecified samples, and COUNT = 0 makes every one of them stale (R35). -/
theorem State.SameButStale.resetEffect : s.resetEffect.SameButStale t.resetEffect := by
  obtain ⟨v, rfl, -⟩ := h.exists_withSample
  exact ⟨rfl, rfl⟩

theorem State.SameButStale.timeoutEffect : s.timeoutEffect.SameButStale t.timeoutEffect := by
  obtain ⟨v, rfl, hf⟩ := h.exists_withSample
  rw [State.withSample_timeoutEffect]
  exact State.sameButStale_of_keeps hf (by rw [State.timeoutEffect_writes]) (by rw [State.timeoutEffect_writes])

theorem State.SameButStale.tickEffect : s.tickEffect.SameButStale t.tickEffect := by
  obtain ⟨v, rfl, hf⟩ := h.exists_withSample
  rw [State.withSample_tickEffect]
  exact State.sameButStale_of_keeps hf s.tickEffect_sample s.tickEffect_count

/-- The one entry that an EDGE brings below COUNT is the one it writes, in both states alike (R82). -/
theorem State.SameButStale.record (hc : s.count.toNat < cap) : s.record.SameButStale t.record := by
  obtain ⟨v, rfl, hf⟩ := h.exists_withSample
  refine ⟨rfl, ?_⟩
  rw [State.frame_record hc, State.frame_record (s := s.withSample v) hc, hf]
  rfl

theorem State.SameButStale.runHandler_capture : (s.runHandler .capture).SameButStale (t.runHandler .capture) := by
  have ht : t.capen = s.capen ∧ t.cfg = s.cfg ∧ t.tcnt = s.tcnt ∧ t.count = s.count := by
    obtain ⟨v, rfl, -⟩ := h.exists_withSample
    exact ⟨rfl, rfl, rfl, rfl⟩
  obtain ⟨hen, hcfg, htcnt, hcount⟩ := ht
  cases hc : s.capen with
  | false => rwa [State.runHandler_masked _ hc, State.runHandler_masked _ (hen.trans hc)]
  | true =>
    rw [State.runHandler_capture_enabled s hc, State.runHandler_capture_enabled t (hen.trans hc),
      State.captureEffect_eq, State.captureEffect_eq, hcfg, htcnt, hcount]
    split
    case isTrue hr => exact h.record hr.2
    case isFalse =>
      obtain ⟨v, rfl, hf⟩ := h.exists_withSample
      exact State.sameButStale_of_keeps hf rfl rfl

theorem State.SameButStale.armEffect : s.armEffect.SameButStale t.armEffect := by
  obtain ⟨v, rfl, -⟩ := h.exists_withSample
  exact State.sameButStale_of_count_zero v rfl

theorem State.SameButStale.loopInitEffect : s.loopInitEffect.SameButStale t.loopInitEffect := by
  obtain ⟨v, rfl, -⟩ := h.exists_withSample
  exact State.sameButStale_of_count_zero v rfl

theorem State.SameButStale.decodeEffect : s.decodeEffect.SameButStale t.decodeEffect := by
  obtain ⟨v, rfl, hf⟩ := h.exists_withSample
  rw [State.decodeEffect, State.decodeEffect, State.decodeFrame_withSample hf]
  exact State.sameButStale_of_keeps hf rfl rfl

theorem State.SameButStale.actuate : s.actuate.SameButStale t.actuate := by
  obtain ⟨v, rfl, hf⟩ := h.exists_withSample
  exact State.sameButStale_of_keeps hf rfl rfl

theorem State.SameButStale.commandAction (code : Code) (cmd : Cmd) :
    (s.commandAction code cmd).SameButStale (t.commandAction code cmd) := by
  obtain ⟨v, rfl, hf⟩ := h.exists_withSample
  rw [State.withSample_commandAction]
  exact State.sameButStale_of_keeps hf (by rw [State.commandAction_writes]) (by rw [State.commandAction_writes])

theorem State.SameButStale.dispatchEffect : s.dispatchEffect.SameButStale t.dispatchEffect := by
  obtain ⟨v, rfl, hf⟩ := h.exists_withSample
  rw [State.withSample_dispatchEffect]
  exact State.sameButStale_of_keeps hf (by rw [State.dispatchEffect_writes]) (by rw [State.dispatchEffect_writes])

/-- SERVICE_FRAME reports and decodes the samples below COUNT, and its ARM makes the whole buffer stale (R124). -/
theorem State.SameButStale.serviceFrameEffect : s.serviceFrameEffect.SameButStale t.serviceFrameEffect := by
  obtain ⟨v, rfl, hf⟩ := h.exists_withSample
  have hd := State.decodeFrame_withSample hf
  suffices he : (s.withSample v).serviceFrameEffect = s.serviceFrameEffect.withSample v by
    rw [he]
    exact State.sameButStale_of_count_zero v (by rw [State.serviceFrameEffect_writes])
  cases hc : s.decodeFrame with
  | none =>
    rw [State.serviceFrameEffect_short s hc, State.serviceFrameEffect_short _ (hd.trans hc), hf]
    rfl
  | some code =>
    have hr : (s.withSample v).reported code = (s.reported code).withSample v := by
      rw [State.reported, hf]
      rfl
    rw [State.serviceFrameEffect_valid s hc, State.serviceFrameEffect_valid _ (hd.trans hc), hr,
      State.withSample_dispatchEffect]
    rfl

end Effects

/-! ## Steps and runs -/

/-- Both outcomes are next states that differ only in stale samples, or both are refusals for one reason. -/
inductive AlikeOutcomes : Host.Outcome State Fault Refusal → Host.Outcome State Fault Refusal → Prop where
  | next {s t : State} (h : s.SameButStale t) : AlikeOutcomes (.next s) (.next t)
  | refused (r : Refusal) : AlikeOutcomes (.refused r) (.refused r)

section Steps

variable {s t : State} (h : s.SameButStale t)
include h

theorem State.SameButStale.illegal_eq : t.illegal = s.illegal := by
  obtain ⟨v, rfl, -⟩ := h.exists_withSample
  rfl

theorem State.SameButStale.nextWord_eq : t.nextWord = s.nextWord := by
  obtain ⟨v, rfl, -⟩ := h.exists_withSample
  rfl

theorem execTick_alike : AlikeOutcomes (execTick s) (execTick t) := by
  unfold execTick
  rw [h.illegal_eq]
  cases s.illegal with
  | some why => exact .refused _
  | none => exact .next h.tickEffect

theorem execEdge_alike : AlikeOutcomes (execEdge s) (execEdge t) := by
  unfold execEdge
  rw [h.illegal_eq]
  cases s.illegal with
  | some why => exact .refused _
  | none => exact .next h.runHandler_capture

theorem execServiceFrame_alike : AlikeOutcomes (execServiceFrame s) (execServiceFrame t) := by
  have hc : t.count = s.count := by rw [h.1]
  unfold execServiceFrame
  rw [hc]
  split
  · exact .refused _
  · exact .next h.serviceFrameEffect

theorem execLoop_alike : AlikeOutcomes (execLoop s) (execLoop t) := by
  have hl : t.lph = s.lph := by rw [h.1]
  have hc : t.capstat = s.capstat := by rw [h.1]
  unfold execLoop
  rw [h.illegal_eq, hl, hc]
  cases s.illegal with
  | some why => exact .refused _
  | none =>
    dsimp only
    split_ifs
    · exact .next h.loopInitEffect
    · exact execServiceFrame_alike h
    · exact .next h

/-- Every operation, alone or as part of a step, treats the two states alike. -/
theorem exec_alike (i : Instr) : AlikeOutcomes (exec i s) (exec i t) := by
  cases i with
  | reset => exact .next h.resetEffect
  | tick => exact execTick_alike h
  | edge => exact execEdge_alike h
  | loop => exact execLoop_alike h
  | loopInit => exact .next h.loopInitEffect
  | poll => exact .next h
  | serviceFrame => exact execServiceFrame_alike h
  | arm => exact .next h.armEffect
  | timeout => exact .next h.timeoutEffect
  | decode => exact .next h.decodeEffect
  | dispatch => exact .next h.dispatchEffect
  | actuate => exact .next h.actuate
  | reservedEv word => exact .refused _
  | volUp => exact .next (h.commandAction 0#_ .volUp)
  | volDown => exact .next (h.commandAction 0#_ .volDown)
  | mute => exact .next (h.commandAction 0#_ .mute)
  | loud => exact .next (h.commandAction 0#_ .loud)
  | quiet => exact .next (h.commandAction 0#_ .quiet)
  | powerOn => exact .next (h.commandAction 0#_ .powerOn)
  | powerOff => exact .next (h.commandAction 0#_ .powerOff)
  | noneCmd code => exact .next (h.commandAction code .noneCmd)

theorem step_alike : AlikeOutcomes (step s) (step t) := by
  simp only [step, h.nextWord_eq]
  split
  · exact exec_alike h.afterFetch _
  · exact .refused _

end Steps

theorem State.run_alike (n : Nat) {s t : State} (h : s.SameButStale t) : AlikeOutcomes (s.run n) (t.run n) := by
  induction n generalizing s t with
  | zero => exact .next h
  | succ n ih =>
    have hst := step_alike h
    generalize hx : step s = x at hst
    generalize hy : step t = y at hst
    cases hst with
    | next h' => rw [State.run_succ_of_next n hx, State.run_succ_of_next n hy]; exact ih h'
    | refused r => rw [State.run_succ_of_refused n hx, State.run_succ_of_refused n hy]; exact .refused r

/-- Settles O49: a run of `n` steps treats two states alike that differ only in stale samples, and no observation sees one. -/
theorem staleSamplesAreNeverObserved : Obligations.StaleSamplesAreNeverObserved := by
  intro n s t h
  have hr := State.run_alike n h
  generalize s.run n = x at hr ⊢
  generalize t.run n = y at hr ⊢
  cases hr with
  | next h' => exact ⟨h', h'.observe_eq⟩
  | refused r => rfl

end Sys2Proof.Machine
end

section

/-! The bound of the Sample Buffer (spec/20_memory.md R44). -/

namespace Sys2Proof.Machine

/-- An index has no sample exactly when it is at or above CAP (R44). -/
theorem State.memRead_eq_none_iff (s : State) (i : Nat) : s.memRead i = none ↔ cap ≤ i := by
  rw [← Option.not_isSome_iff_eq_none, s.memRead_isSome_iff, Nat.not_lt]

/-- A COUNT above CAP asks SERVICE_FRAME for a sample at index CAP, and it is refused (D32). -/
theorem execServiceFrame_of_cap_lt {s : State} (h : cap < s.count.toNat) :
    execServiceFrame s = .refused (.sampleIndex cap) := if_pos h

/-- Settles O40: CAP is the length of the buffer and the bound that SERVICE_FRAME tests COUNT against. -/
theorem indexAboveCapacityIsRefused : Obligations.IndexAboveCapacityIsRefused :=
  fun s => ⟨s.memRead_eq_none_iff, execServiceFrame_of_cap_lt⟩

end Sys2Proof.Machine
end

section
/-! The encoding (spec/30_encoding.md R60 to R70): an operation is well formed exactly when its own word decodes to it, and every
word is the word of what it decodes to. Both directions of the round trip rest on these two facts, one pair for each format. -/

namespace Sys2Proof

/-! ## Format EV -/

/-- A word decodes to itself as RESERVED_EV exactly when R68 (a) reserves it. -/
theorem decodeEv_eq_reservedEv_iff (w : Byte) : decodeEv w = .reservedEv w ↔ isReservedEv w = true := by
  revert w; decide +kernel

/-- Every word is the EV word of the operation it decodes to. -/
theorem evWord_decodeEv (w : Byte) : (decodeEv w).evWord = some w := by
  revert w; decide +kernel

/-- An EV row is well formed exactly when its word decodes to it. -/
theorem wf_iff_decodeEv (c : Config) {i : Instr} {w : Byte} (h : i.evWord = some w) :
    i.wf c = true ↔ decodeEv w = i := by
  cases i with
  | reservedEv v =>
    obtain rfl : v = w := Option.some.inj h
    exact (decodeEv_eq_reservedEv_iff v).symm
  | volUp | volDown | mute | loud | quiet | powerOn | powerOff | noneCmd => cases h
  | reset | tick | edge | loop | loopInit | poll | serviceFrame | arm | timeout | decode | dispatch | actuate =>
    obtain rfl := Option.some.inj h
    exact ⟨fun _ => by decide, fun _ => rfl⟩

/-! ## Format CODE32 -/

/-- A match is one of the rows it was looked for in. -/
theorem firstMatch_mem {code : Code} {rows : List (Code × Cmd)} (h : firstMatch code rows ≠ .noneCmd) :
    (code, firstMatch code rows) ∈ rows := by
  induction rows with
  | nil => exact absurd rfl h
  | cons row rest ih =>
    obtain ⟨word, cmd⟩ := row
    unfold firstMatch at h ⊢
    split
    case isTrue hw => simp [hw]
    case isFalse hw => exact List.mem_cons_of_mem _ (ih (by rwa [if_neg hw] at h))

/-- Every code is the code word of the command it selects (R67, R101). -/
theorem codeWord_decodeCode (c : Config) (code : Code) : (decodeCode c code).codeWord c = some code := by
  unfold decodeCode
  by_cases h : c.lookup code = .noneCmd
  · rw [h]; rfl
  · have hrow : (code, c.lookup code) ∈ c.rows.toList := firstMatch_mem h
    generalize c.lookup code = cmd at hrow
    simp only [Config.rows, Vector.toList_mk, List.mem_cons, List.not_mem_nil, Prod.mk.injEq, or_false] at hrow
    obtain ⟨rfl, rfl⟩ | ⟨rfl, rfl⟩ | ⟨rfl, rfl⟩ | ⟨rfl, rfl⟩ | ⟨rfl, rfl⟩ | ⟨rfl, rfl⟩ | ⟨rfl, rfl⟩ := hrow <;> rfl

/-- A command row is well formed exactly when its code word selects it (R101). -/
theorem wf_iff_decodeCode {c : Config} {i : Instr} {code : Code} (h : i.codeWord c = some code) :
    i.wf c = true ↔ decodeCode c code = i := by
  cases i with
  | reset | tick | edge | loop | loopInit | poll | serviceFrame | arm | timeout | decode | dispatch | actuate
  | reservedEv => cases h
  | volUp | volDown | mute | loud | quiet | powerOn | powerOff | noneCmd =>
    obtain rfl := Option.some.inj h
    simp only [Instr.wf, decodeCode, beq_iff_eq]
    cases c.lookup _ <;> simp [Cmd.instr]

/-! ## The encoder and the decoder over bytes -/

theorem encode_of_evWord (c : Config) {i : Instr} {w : Byte} (h : i.evWord = some w) : encode c i = [w] := by
  simp [encode, h]

theorem encode_of_codeWord {c : Config} {i : Instr} {code : Code} (h : i.codeWord c = some code) :
    encode c i = codeBytes code := by
  have hev : i.evWord = none := by cases i <;> cases h <;> rfl
  simp [encode, hev, h]

/-- Every operation is in one of the two formats. -/
theorem evWord_or_codeWord (c : Config) (i : Instr) : (∃ w, i.evWord = some w) ∨ ∃ code, i.codeWord c = some code := by
  cases i with
  | reset | tick | edge | loop | loopInit | poll | serviceFrame | arm | timeout | decode | dispatch | actuate
  | reservedEv => exact .inl ⟨_, rfl⟩
  | volUp | volDown | mute | loud | quiet | powerOn | powerOff | noneCmd => exact .inr ⟨_, rfl⟩

/-- What decodes is one EV word or the NBYTES bytes of a code (R60, R70). -/
theorem decode_eq_ok {c : Config} {bytes : List Byte} {i : Instr} (h : decode c bytes = .ok i) :
    (∃ w, bytes = [w] ∧ decodeEv w = i) ∨ ∃ code, bytes = codeBytes code ∧ decodeCode c code = i := by
  unfold decode at h
  split at h
  · exact .inl ⟨_, rfl, Except.ok.inj h⟩
  · split at h
    case isTrue hlen => exact .inr ⟨_, (codeBytes_codeOfBytes hlen).symm, Except.ok.inj h⟩
    case isFalse => cases h

/-- Settles O2: in either format, to be well formed is to be what one's word decodes to. -/
theorem decodeOfEncodeIsTheInstruction : Obligations.DecodeOfEncodeIsTheInstruction := by
  intro c i hw
  obtain ⟨w, h⟩ | ⟨code, h⟩ := evWord_or_codeWord c i
  · rw [encode_of_evWord c h]
    exact congrArg Except.ok ((wf_iff_decodeEv c h).mp hw)
  · rw [encode_of_codeWord h, decode_codeBytes, (wf_iff_decodeCode h).mp hw]

/-- Settles O3: every word, in either format, is the word of what it decodes to. -/
theorem encodeOfDecodeIsTheBytes : Obligations.EncodeOfDecodeIsTheBytes := by
  intro c bytes i h
  obtain ⟨w, rfl, rfl⟩ | ⟨code, rfl, rfl⟩ := decode_eq_ok h
  · have hw := evWord_decodeEv w
    exact ⟨(wf_iff_decodeEv c hw).mpr rfl, encode_of_evWord c hw⟩
  · have hw := codeWord_decodeCode c code
    exact ⟨(wf_iff_decodeCode hw).mpr rfl, encode_of_codeWord hw⟩

/-- Settles O1: the decoder computes each row. -/
theorem tableWordsDecodeToTheirRows : Obligations.TableWordsDecodeToTheirRows := by
  unfold Obligations.TableWordsDecodeToTheirRows
  decide

end Sys2Proof

namespace Sys2Proof.Machine

/-! ## The step of a decoded word -/

/-- The decoder over bytes reads one byte as an EV word. -/
theorem decode_singleton (c : Config) (w : Byte) : decode c [w] = .ok (decodeEv w) := rfl

/-- Settles O4: the four standalone words are the only ones a free choice can give. -/
theorem stepRunsTheDecodedOperation : Obligations.StepRunsTheDecodedOperation := by
  intro s
  constructor
  · intro w rest i hs hd hi
    obtain rfl : decodeEv w = i := Except.ok.inj hd
    exact step_script hs hi
  · intro hs
    have hw := s.nextWord_standalone_of_empty hs
    have hf : s.afterFetch = { s with drawn := s.drawn + 1 } := by rw [State.afterFetch, hs]
    refine ⟨decodeEv s.nextWord, ?_, by rw [step_of_standalone hw, hf]⟩
    obtain h | h | h | h := (standaloneWord_iff _).mp hw <;> simp [h]

/-- The words R68 (a) reserves, as numbers: RSV ≠ 0 is 16 and above. -/
theorem isReservedEv_iff (w : Byte) : isReservedEv w = true ↔ 16 ≤ w.toNat ∨ (4 ≤ w.toNat ∧ w.toNat ≤ 7) := by
  revert w; decide +kernel

/-- A step on a pending word is decided by that word. -/
theorem step_pending {s : State} {w : Byte} {rest : List Byte} (h : s.script = w :: rest) :
    step s =
      if (decodeEv w).standalone || (decodeEv w).kind == .reserved then exec (decodeEv w) s.afterFetch
      else .refused (.internalOp w) := by
  have hw : s.nextWord = w := by rw [State.nextWord, h]
  rw [step, hw]

/-- Settles O5: the step lets a reserved word through to its meaning, which refuses it. -/
theorem reservedWordsAreRefused : Obligations.ReservedWordsAreRefused := by
  intro s w hw
  have hd : decodeEv w = .reservedEv w := (decodeEv_eq_reservedEv_iff w).mpr ((isReservedEv_iff w).mpr hw)
  refine ⟨hd, rfl, fun rest hs => ?_⟩
  rw [step_pending hs, hd]
  rfl

/-- The words of the internal operations (R61). -/
theorem kind_decodeEv_internal {w : Byte} (h1 : 8 ≤ w.toNat) (h2 : w.toNat ≤ 15) : (decodeEv w).kind = .internal := by
  revert w; decide +kernel

/-- An internal operation starts no step (R61). -/
theorem standalone_of_internal {i : Instr} (h : i.kind = .internal) : i.standalone = false := by
  cases i <;> simp_all [Instr.kind, Instr.standalone]

/-- Settles O6: an internal operation neither starts a step nor is a reserved word. -/
theorem internalOperationsAloneAreRefused : Obligations.InternalOperationsAloneAreRefused := by
  intro s w rest h1 h2 hs
  have hk := kind_decodeEv_internal h1 h2
  rw [step_pending hs, standalone_of_internal hk, hk]
  rfl

/-- A byte in both halves of a word is the byte times 0x0101 (R63). -/
theorem toNat_append_self (v : Volume) : (v ++ v).toNat = v.toNat * 0x0101 := by
  have hv : v.toNat < 2 ^ 8 := v.isLt
  rw [BitVec.toNat_append, ← Nat.shiftLeft_add_eq_or_of_lt hv, Nat.shiftLeft_eq]
  omega

/-- Settles O33: ACTUATE sends `State.actWord` and reports it with the next draw. -/
theorem actuateSendsTheProfile : Obligations.ActuateSendsTheProfile := by
  intro s
  refine ⟨s.actWord, s.nextDraw, s.actuate, rfl, s.actuate_eq, fun h => ?_, fun h => ?_, fun d rest h => ?_⟩
  · simp [State.actWord, h]
  · simp [State.actWord, h, toNat_append_self]
  · simp [State.nextDraw, State.actuate, h]

end Sys2Proof.Machine
end

section
/-! The runs of a FRAME and of a SEND (spec/30_encoding.md R72, R73): the leading EDGE, the PULSEs, the GAP and the LOOP, each as
one run, and the four joined. -/

namespace Sys2Proof.Machine

/-- A run of one step. -/
theorem State.run_one {s t : State} (h : step s = .next t) : s.run 1 = .next t := State.run_succ_of_next 0 h

/-! ## ADVANCE -/

@[simp] theorem length_advanceWords (n : Nat) : (advanceWords n).length = n := List.length_replicate

/-- TICKs that do not carry TCNT past MAX_TICKS only count (R80). -/
theorem State.run_advance (k : Nat) {s : State} {rest : List Byte} (hl : s.illegal = none)
    (hk : s.tcnt.toNat + k ≤ s.cfg.maxTicks.toNat) (hs : s.script = advanceWords k ++ rest) :
    s.run k = .next { s with script := rest, tcnt := s.tcnt + BitVec.ofNat 16 k } := by
  induction k generalizing s with
  | zero =>
    obtain rfl : s.script = rest := hs
    simp
  | succ k ih =>
    have hne : s.tcnt ≠ s.cfg.maxTicks := fun h => by rw [h] at hk; omega
    have htick := step_tick hs hl
    rw [if_neg fun h => hne h.2.1] at htick
    have hk' : (s.tcnt + 1#16).toNat + k ≤ s.cfg.maxTicks.toNat := by bv_omega
    rw [State.run_succ_of_next k htick]
    refine (ih (s := { s with script := advanceWords k ++ rest, tcnt := s.tcnt + 1#16 }) hl hk' rfl).trans ?_
    rw [BitVec.add_assoc, ← BitVec.ofNat_add, Nat.add_comm 1]

/-! ## The frame under capture -/

/-- The frame of a COUNT in range has COUNT samples. -/
theorem State.length_frame {s : State} (h : s.count.toNat ≤ cap) : s.frame.length = s.count.toNat := by
  simpa [State.frame] using h

/-- The first `n` of a list depend on the first `n` of its first part alone. -/
theorem take_take_append {α : Type} (n : Nat) (l m : List α) : (l.take n ++ m).take n = (l ++ m).take n := by
  have hn : n - min n l.length = n - l.length := by omega
  rw [List.take_append, List.take_append, List.take_take, List.length_take, Nat.min_self, hn]

/-- ARMED in the RUN phase, with an EDGE just measured: the state a PULSE or a GAP starts from. -/
structure State.Measuring (s : State) : Prop where
  phase : s.lph = .run
  armed : s.capstat = armed
  fresh : s.tcnt = 0#16
  room : s.count.toNat ≤ cap

theorem State.legal_of_armed {s : State} (hp : s.lph = .run) (ha : s.capstat = armed) (hc : s.count.toNat ≤ cap) :
    s.illegal = none := by
  rw [State.illegal_eq_none_iff, hp, ha]
  exact ⟨by decide, hc, by decide, fun h => absurd h (by decide)⟩

theorem State.Measuring.legal {s : State} (h : s.Measuring) : s.illegal = none :=
  State.legal_of_armed h.phase h.armed h.room

/-- `u` is `s` with `rest` pending and the intervals `ts` put behind its frame, as many as CAP has room for (R82). -/
structure State.Recorded (s u : State) (ts : List Ticks) (rest : List Byte) : Prop where
  writes : u = { s with script := rest, count := u.count, sample := u.sample }
  room : u.count.toNat ≤ cap
  frame : u.frame = (s.frame ++ ts).take cap

theorem State.Recorded.trans {s u v : State} {ts ts' : List Ticks} {rest rest' : List Byte} (h : s.Recorded u ts rest)
    (h' : u.Recorded v ts' rest') : s.Recorded v (ts ++ ts') rest' where
  writes := by rw [h'.writes, h.writes]
  room := h'.room
  frame := by rw [h'.frame, h.frame, take_take_append, List.append_assoc]

theorem State.Recorded.frame_of_empty {s u : State} {ts : List Ticks} {rest : List Byte} (h : s.Recorded u ts rest)
    (hc : s.count = 0#9) : u.frame = ts.take cap := by
  rw [h.frame, State.frame_of_count_zero hc, List.nil_append]

theorem State.Recorded.measuring {s u : State} {ts : List Ticks} {rest : List Byte} (h : s.Recorded u ts rest)
    (hm : s.Measuring) : u.Measuring where
  phase := by rw [h.writes]; exact hm.phase
  armed := by rw [h.writes]; exact hm.armed
  fresh := by rw [h.writes]; exact hm.fresh
  room := h.room

/-- An enabled EDGE of an interval in range records it, or drops it when the buffer is full (R82). -/
theorem State.captureEffect_recorded {s : State} (hv : validInterval s.cfg s.tcnt = true) (hc : s.count.toNat ≤ cap) :
    (s.setTcnt 0#16).Recorded s.captureEffect [s.tcnt] s.script := by
  have hlen := State.length_frame hc
  rw [State.captureEffect_eq]
  by_cases hlt : s.count.toNat < cap
  · rw [if_pos ⟨hv, hlt⟩]
    have hroom : s.record.count.toNat ≤ cap := by
      show (s.count + 1#9).toNat ≤ cap
      rw [cap_eq] at hlt ⊢
      bv_omega
    refine ⟨rfl, hroom, (State.frame_record hlt).trans (List.take_of_length_le ?_).symm⟩
    rw [List.length_append, State.frame_congr rfl rfl, hlen]
    exact hlt
  · rw [if_neg fun h => hlt h.2]
    refine ⟨rfl, hc, ?_⟩
    have hfull : (s.setTcnt 0#16).frame.length = cap := hlen.trans (by omega)
    rw [List.take_append_of_le_length hfull.ge, List.take_of_length_le hfull.le]

/-! ## PULSE, FRAME's PULSEs, GAP -/

/-- An EDGE while ARMED is the capture. -/
theorem step_edge_armed {s : State} {rest : List Byte} (h : s.script = 0x02#8 :: rest) (hl : s.illegal = none)
    (ha : s.capstat = armed) : step s = .next ({ s with script := rest } : State).captureEffect := by
  rw [step_edge h hl, State.runHandler_capture_enabled { s with script := rest } (State.capen_of_armed ha)]

/-- A number of ticks in the range of R81, as an interval. -/
theorem validInterval_ofNat {c : Config} {x : Nat} (hlo : c.minTicks.toNat ≤ x) (hhi : x ≤ c.maxTicks.toNat) :
    validInterval c (BitVec.ofNat 16 x) = true := by
  rw [validInterval_iff]
  constructor <;> bv_omega

/-- A PULSE of an interval in range records it (R73). -/
theorem State.Measuring.run_pulse {s : State} {x : Nat} {rest : List Byte} (hm : s.Measuring)
    (hx : s.cfg.minTicks.toNat ≤ x ∧ x ≤ s.cfg.maxTicks.toNat) (hs : s.script = pulseWords x ++ rest) :
    ∃ u : State, s.run (pulseWords x).length = .next u ∧ s.Recorded u [BitVec.ofNat 16 x] rest := by
  obtain ⟨hlo, hhi⟩ := hx
  have hs' : s.script = advanceWords x ++ 0x02#8 :: rest := by rw [hs, pulseWords, List.append_assoc]; rfl
  have hrun := State.run_advance x hm.legal (by simpa [hm.fresh] using hhi) hs'
  rw [hm.fresh, BitVec.zero_add] at hrun
  have hedge := State.run_one (step_edge_armed (s := { s with script := 0x02#8 :: rest, tcnt := BitVec.ofNat 16 x }) rfl
    hm.legal hm.armed)
  obtain ⟨hw, hr, hf⟩ := State.captureEffect_recorded
    (s := { s with script := rest, tcnt := BitVec.ofNat 16 x }) (validInterval_ofNat hlo hhi) hm.room
  refine ⟨_, ?_, hw.trans ?_, hr, hf⟩
  · rw [pulseWords, List.length_append, length_advanceWords]
    exact (State.run_add 1 hrun).trans hedge
  · rw [← hm.fresh]
    rfl

/-- PULSEs of intervals in range record them in order (R73). -/
theorem State.Measuring.run_pulses {ts : List Nat} {s : State} {rest : List Byte} (hm : s.Measuring)
    (hts : ∀ x ∈ ts, s.cfg.minTicks.toNat ≤ x ∧ x ≤ s.cfg.maxTicks.toNat) (hs : s.script = pulsesWords ts ++ rest) :
    ∃ u : State, s.run (pulsesWords ts).length = .next u ∧ s.Recorded u (ts.map (BitVec.ofNat 16)) rest := by
  induction ts generalizing s with
  | nil =>
    obtain rfl : s.script = rest := hs
    have hlen := State.length_frame hm.room
    exact ⟨s, rfl, rfl, hm.room, by simp [List.take_of_length_le (hlen.le.trans hm.room)]⟩
  | cons x xs ih =>
    have hcons : pulsesWords (x :: xs) = pulseWords x ++ pulsesWords xs := rfl
    rw [hcons, List.append_assoc] at hs
    rw [List.forall_mem_cons] at hts
    obtain ⟨u, hu, hsu⟩ := hm.run_pulse hts.1 hs
    have hcfg : u.cfg = s.cfg := by rw [hsu.writes]
    have hscript : u.script = pulsesWords xs ++ rest := by rw [hsu.writes]
    obtain ⟨v, hv, huv⟩ := ih (hsu.measuring hm) (by rw [hcfg]; exact hts.2) hscript
    refine ⟨v, ?_, hsu.trans huv⟩
    rw [hcons, List.length_append]
    exact (State.run_add _ hu).trans hv

/-- A GAP closes a frame of at least one sample (R72, R84). -/
theorem State.Measuring.run_gap {s : State} {rest : List Byte} (hm : s.Measuring) (hn : s.count ≠ 0#9)
    (hs : s.script = gapWords s.cfg ++ rest) :
    s.run (gapWords s.cfg).length =
      .next { s with script := rest, tcnt := s.cfg.maxTicks + 1#16, capstat := frameReady } := by
  have hs' : s.script = advanceWords s.cfg.maxTicks.toNat ++ 0x01#8 :: rest := by
    rw [hs, gapWords, advanceWords, List.replicate_succ', List.append_assoc]; rfl
  have hrun := State.run_advance s.cfg.maxTicks.toNat hm.legal (by simp [hm.fresh]) hs'
  rw [hm.fresh, BitVec.zero_add, BitVec.ofNat_toNat, BitVec.setWidth_eq] at hrun
  have htick := step_tick (s := { s with script := 0x01#8 :: rest, tcnt := s.cfg.maxTicks }) rfl hm.legal
  rw [if_pos ⟨State.capen_of_armed hm.armed, rfl, hn⟩] at htick
  rw [gapWords, length_advanceWords]
  exact (State.run_add 1 hrun).trans (State.run_one htick)

/-! ## FRAME -/

/-- The leading EDGE of a FRAME only resets TCNT, so that the next PULSE is measured from it (R73, R181). -/
theorem State.FramePre.step_edge {s : State} {rest : List Byte} (h : s.FramePre) (hs : s.script = 0x02#8 :: rest) :
    step s = .next { s with script := rest, tcnt := 0#16 } := by
  obtain ⟨⟨hp, ha, hc⟩, hv⟩ := h
  have hl := State.legal_of_armed hp ha (by simp [hc])
  rw [step_edge_armed hs hl ha, State.captureEffect_eq, if_neg fun h => absurd (h.1.symm.trans hv) (by decide)]
  rfl

/-- A timer one past MAX_TICKS is outside the valid range (R8, R81). -/
theorem validInterval_past_maxTicks {c : Config} (h : c.wf) : validInterval c (c.maxTicks + 1#16) = false := by
  obtain ⟨-, -, -, hmax⟩ := h
  rw [Bool.eq_false_iff, Ne, validInterval_iff]
  rintro ⟨-, hle⟩
  bv_omega

/-- `u` is what a FRAME of the intervals `ts` leaves for its LOOP: those that fit, closed, MAX_TICKS + 1 ticks ago (R73). -/
structure State.FrameClosed (s u : State) (ts : List Ticks) (rest : List Byte) : Prop where
  writes : u = { s with
    capstat := frameReady, count := u.count, sample := u.sample, tcnt := s.cfg.maxTicks + 1#16, script := rest }
  room : u.count.toNat ≤ cap
  frame : u.frame = ts.take cap
  nonempty : u.count ≠ 0#9

/-- The words of a FRAME before its LOOP capture and close the frame (R73). -/
theorem State.FramePre.run_close {s : State} {ts : List Nat} {rest : List Byte} (h : s.FramePre) (hne : ts ≠ [])
    (hts : ∀ x ∈ ts, s.cfg.minTicks.toNat ≤ x ∧ x ≤ s.cfg.maxTicks.toNat)
    (hs : s.script = 0x02#8 :: (pulsesWords ts ++ (gapWords s.cfg ++ rest))) :
    ∃ u : State, s.run (1 + ((pulsesWords ts).length + (gapWords s.cfg).length)) = .next u ∧
      s.FrameClosed u (ts.map (BitVec.ofNat 16)) rest := by
  have hedge := State.run_one (h.step_edge hs)
  obtain ⟨⟨hp, ha, hc⟩, -⟩ := h
  have hm : State.Measuring { s with script := pulsesWords ts ++ (gapWords s.cfg ++ rest), tcnt := 0#16 } :=
    ⟨hp, ha, rfl, by simp [hc]⟩
  obtain ⟨v, hv, hrec⟩ := hm.run_pulses hts rfl
  have hframe := hrec.frame_of_empty hc
  have hn : v.count ≠ 0#9 := fun h0 => by
    rw [State.frame_of_count_zero h0] at hframe
    simp [hne] at hframe
  have hcfg : v.cfg = s.cfg := by rw [hrec.writes]
  have hscript : v.script = gapWords v.cfg ++ rest := by rw [hrec.writes]
  have hgap := (hrec.measuring hm).run_gap hn hscript
  rw [hcfg] at hgap
  refine ⟨_, (State.run_add _ hedge).trans ((State.run_add _ hv).trans hgap), ?_, hrec.room, hframe, hn⟩
  rw [hrec.writes]

namespace State.FrameClosed

variable {s u : State} {ts : List Ticks} {rest : List Byte} (h : s.FrameClosed u ts rest)
include h

theorem count_eq : u.count.toNat = min ts.length cap := by
  rw [← State.length_frame h.room, h.frame, List.length_take, Nat.min_comm]

/-- The samples are the intervals, as far as they fit. -/
theorem memRead_eq {i : Nat} (hi : i < min ts.length cap) : u.memRead i = ts[i]? := by
  rw [← State.frame_getElem? u (h.count_eq ▸ hi), h.frame, List.getElem?_take_of_lt (by omega)]

theorem legal (hp : s.lph = .run) : u.illegal = none := by
  have hl : u.lph = .run := by rw [h.writes]; exact hp
  have hc : u.capstat = frameReady := by rw [h.writes]
  rw [State.illegal_eq_none_iff, hl, hc]
  exact ⟨by decide, h.room, by decide, fun _ => h.nonempty⟩

theorem execServiceFrame_eq : execServiceFrame u = .next u.serviceFrameEffect := by
  have hc : ¬ cap < u.count.toNat := Nat.not_lt.mpr h.room
  rw [execServiceFrame, if_neg hc]

/-- The LOOP of the FRAME services it (R121). -/
theorem step_loop {rest' : List Byte} (hp : s.lph = .run) (hr : rest = 0x03#8 :: rest') :
    step u = .next ({ u with script := rest' } : State).serviceFrameEffect := by
  have hl : u.lph ≠ .init := by rw [h.writes, hp]; decide
  have hc : u.capstat = frameReady := by rw [h.writes]
  have hs : u.script = 0x03#8 :: rest' := by rw [h.writes]; exact hr
  rw [Machine.step_loop hs (h.legal hp), if_neg hl, if_pos hc]

/-- The words pending are no part of the frame. -/
theorem withScript (rest' : List Byte) : s.FrameClosed { u with script := rest' } ts rest' where
  writes := by rw [h.writes]
  room := h.room
  frame := h.frame
  nonempty := h.nonempty

/-- SERVICE_FRAME of it ends where a FRAME may start (R73, R124). -/
theorem framePre_service (hw : s.cfg.wf) (hp : s.lph = .run) : u.serviceFrameEffect.FramePre := by
  have hcfg : u.cfg = s.cfg := by rw [h.writes]
  have htcnt : u.tcnt = s.cfg.maxTicks + 1#16 := by rw [h.writes]
  have hl : u.lph = .run := by rw [h.writes]; exact hp
  rw [u.serviceFrameEffect_writes]
  refine ⟨⟨hl, rfl, rfl⟩, ?_⟩
  show validInterval u.cfg u.tcnt = false
  rw [hcfg, htcnt]
  exact validInterval_past_maxTicks hw

end State.FrameClosed

/-- A FRAME of at least one interval in range is the SERVICE_FRAME of its closed frame (R73). -/
theorem State.FramePre.run_frame {s : State} {ts : List Nat} {rest : List Byte} (h : s.FramePre) (hne : ts ≠ [])
    (hts : ∀ x ∈ ts, s.cfg.minTicks.toNat ≤ x ∧ x ≤ s.cfg.maxTicks.toNat) (hs : s.script = frameWords s.cfg ts ++ rest) :
    ∃ u : State, s.run (frameWords s.cfg ts).length = .next u.serviceFrameEffect ∧
      s.FrameClosed u (ts.map (BitVec.ofNat 16)) rest := by
  have hs' : s.script = 0x02#8 :: (pulsesWords ts ++ (gapWords s.cfg ++ 0x03#8 :: rest)) := by
    simp [hs, frameWords]
  obtain ⟨u, hu, hclosed⟩ := h.run_close hne hts hs'
  refine ⟨{ u with script := rest }, ?_, hclosed.withScript rest⟩
  have hlen : (frameWords s.cfg ts).length = 1 + ((pulsesWords ts).length + (gapWords s.cfg).length) + 1 := by
    simp [frameWords]; omega
  rw [hlen]
  exact (State.run_add 1 hu).trans (State.run_one (hclosed.step_loop h.1.1 rfl))

/-- The first LOOP after a reset with TCNT_RESET < MIN_TICKS comes to where a FRAME may start (R73, R122, R170). -/
theorem framePre_loopInit_resetWith {c : Config} {tcnt : Ticks} (sample : Vector Ticks cap) (h : tcnt < c.minTicks) :
    (State.resetWith c tcnt sample).loopInitEffect.FramePre := by
  rw [State.loopInitEffect_eq]
  refine ⟨⟨rfl, rfl, rfl⟩, ?_⟩
  show validInterval c tcnt = false
  rw [Bool.eq_false_iff, Ne, validInterval_iff]
  exact fun hv => absurd h (BitVec.not_lt.mpr hv.1)

/-- Settles O52: the leading EDGE, each PULSE, the GAP and the LOOP, run one after the other. -/
theorem frameScriptServicesItsFrame : Obligations.FrameScriptServicesItsFrame := by
  refine ⟨fun c tcnt sample _ ht => ⟨_, rfl, framePre_loopInit_resetWith sample ht⟩, ?_⟩
  intro ts s rest hw hpre hne hts hs
  obtain ⟨u, hrun, hu⟩ := hpre.run_frame hne hts hs
  have hcount : u.count.toNat = min ts.length 256 := by rw [hu.count_eq, List.length_map]
  have hfp := hu.framePre_service hw hpre.1.1
  refine ⟨u, u.serviceFrameEffect, hrun, ?_, fun i hi => ?_, hu.execServiceFrame_eq, hfp.1, ?_, ?_, hfp⟩
  · rw [← hcount, BitVec.ofNat_toNat, BitVec.setWidth_eq]
    exact hu.writes
  · rw [hu.memRead_eq (by rwa [List.length_map]), List.getElem?_map]
  · rw [State.serviceFrameEffect_tcnt, hu.writes]
  · rw [u.serviceFrameEffect_writes]

/-! ## SEND -/

/-- Two states of one Gain Profile, one configuration and one history of ACT: all that DISPATCH of a code reads or writes but DIAG
and the draws. -/
structure State.SameGain (s t : State) : Prop where
  cfg : t.cfg = s.cfg
  volume : t.volume = s.volume
  mute : t.mute = s.mute
  act : t.act = s.act

namespace State.SameGain

variable {s t : State} (h : s.SameGain t)
include h

theorem setVolume (v : Volume) : (s.setVolume v).SameGain (t.setVolume v) := ⟨h.cfg, rfl, h.mute, h.act⟩

theorem setMute (b : Bool) : (s.setMute b).SameGain (t.setMute b) := ⟨h.cfg, h.volume, rfl, h.act⟩

theorem emitDiag (e : DiagEvent) : (s.emitDiag e).SameGain (t.emitDiag e) := ⟨h.cfg, h.volume, h.mute, h.act⟩

theorem volUpAction : s.volUpAction.SameGain t.volUpAction := by
  unfold State.volUpAction
  rw [h.mute, h.volume]
  split
  · exact h.setMute false
  · exact h.setVolume _

theorem volDownAction : s.volDownAction.SameGain t.volDownAction := by
  unfold State.volDownAction
  rw [h.mute, h.volume]
  split
  · exact h.setMute false
  · exact h.setVolume _

theorem commandAction (code : Code) (cmd : Cmd) : (s.commandAction code cmd).SameGain (t.commandAction code cmd) := by
  cases cmd with
  | volUp => exact h.volUpAction
  | volDown => exact h.volDownAction
  | mute => exact h.setMute true
  | loud =>
    unfold State.commandAction State.loudAction
    rw [h.cfg]
    exact (h.setMute false).setVolume _
  | quiet =>
    unfold State.commandAction State.quietAction
    rw [h.cfg]
    exact (h.setMute false).setVolume _
  | powerOn | powerOff | noneCmd => exact h.emitDiag _

theorem actuate : s.actuate.SameGain t.actuate := by
  have hword : t.actWord = s.actWord := by rw [State.actWord, State.actWord, h.mute, h.volume]
  refine ⟨h.cfg, h.volume, h.mute, ?_⟩
  rw [State.actuate_eq, State.actuate_eq, hword, h.act]

theorem dispatchCode (code : Code) : (s.dispatchCode code).SameGain (t.dispatchCode code) := by
  have hlookup : t.cfg.lookup code = s.cfg.lookup code := by rw [h.cfg]
  by_cases hn : s.cfg.lookup code = .noneCmd
  · rw [State.dispatchCode_unrecognized s hn, State.dispatchCode_unrecognized t (hlookup.trans hn)]
    exact h.emitDiag _
  · rw [State.dispatchCode_recognized s hn, State.dispatchCode_recognized t (by rwa [hlookup]), hlookup]
    exact (h.commandAction code _).actuate

/-- The service of a frame that decodes to a code leaves the Gain Profile and ACT as DISPATCH of that code does (R124). -/
theorem serviceFrameEffect {code : Code} (hd : t.decodeFrame = some code) :
    (s.dispatchCode code).SameGain t.serviceFrameEffect := by
  have hreported : s.SameGain (t.reported code) := ⟨h.cfg, h.volume, h.mute, h.act⟩
  obtain ⟨hcfg, hvolume, hmute, hact⟩ := hreported.dispatchCode code
  rw [State.serviceFrameEffect_valid t hd]
  exact ⟨hcfg, hvolume, hmute, hact⟩

end State.SameGain

/-- The intervals of a SEND are in range (R72). -/
theorem sendIntervals_inRange {c : Config} {p : BitTicks} (hp : p.wf c) (code : Code) :
    ∀ x ∈ sendIntervals p code, c.minTicks.toNat ≤ x ∧ x ≤ c.maxTicks.toNat := by
  obtain ⟨h1, h2, h3, h4⟩ := hp
  intro x hx
  obtain ⟨k, -, rfl⟩ := List.mem_map.mp hx
  split <;> omega

@[simp] theorem length_sendIntervals (p : BitTicks) (code : Code) : (sendIntervals p code).length = nsamp := by
  simp [sendIntervals]

/-- The threshold tells BIT1_TICKS from BIT0_TICKS (R72, R90). -/
theorem irRef_lt_bitTicks {c : Config} {p : BitTicks} (hp : p.wf c) (b : Bool) :
    decide (irRef < BitVec.ofNat 16 (if b then p.bit1 else p.bit0)) = b := by
  obtain ⟨-, h0, h1, hmax⟩ := hp
  cases b with
  | true =>
    rw [if_pos rfl, decide_eq_true_eq]
    bv_omega
  | false =>
    rw [if_neg Bool.false_ne_true, decide_eq_false_iff_not]
    bv_omega

/-- The frame of a SEND decodes to its code (R72, R90). -/
theorem State.FrameClosed.decodeFrame_send {s u : State} {p : BitTicks} {code : Code} {rest : List Byte} (hp : p.wf s.cfg)
    (h : s.FrameClosed u ((sendIntervals p code).map (BitVec.ofNat 16)) rest) : u.decodeFrame = some code := by
  have hcount : u.count.toNat = nsamp := by rw [h.count_eq, List.length_map, length_sendIntervals]; rfl
  have hbit (k : Nat) (hk : k < nsamp) : u.codeBit k = code.getLsbD k := by
    have hread : u.memRead k = some (BitVec.ofNat 16 (if code.getLsbD k then p.bit1 else p.bit0)) := by
      rw [h.memRead_eq (by rwa [← h.count_eq, hcount])]
      simp [sendIntervals, hk]
    rw [State.codeBit, hread]
    exact irRef_lt_bitTicks hp _
  rw [State.decodeFrame, if_neg (by omega)]
  exact congrArg some (BitVec.eq_of_getLsbD_eq fun k hk => (getLsbD_packBits _ _ _ hk).trans (hbit k hk))

/-- Settles O53: a SEND is a FRAME that decodes to its code, and its SERVICE_FRAME dispatches that code in a state of the same Gain
Profile. -/
theorem sendDispatchesItsCode : Obligations.SendDispatchesItsCode := by
  intro p code s rest hw hp hpre hs
  have hne : sendIntervals p code ≠ [] := List.ne_nil_of_length_pos (by simp)
  obtain ⟨u, hrun, hu⟩ := hpre.run_frame hne (sendIntervals_inRange hp code) hs
  have hgain : ({ s with decoded := some code } : State).SameGain u := by constructor <;> rw [hu.writes]
  obtain ⟨-, hvolume, hmute, hact⟩ := hgain.serviceFrameEffect (hu.decodeFrame_send hp)
  refine ⟨u.serviceFrameEffect, _, hrun, rfl, hvolume, hmute, hact, hu.framePre_service hw hpre.1.1, ?_⟩
  rw [u.serviceFrameEffect_writes, hu.writes]

end Sys2Proof.Machine
end

section
/-! The operations of the edge-capture source (spec/40_capture.md R80 to R89): TICK, EDGE, TIMEOUT and ARM, each as one outcome, and
what it writes. -/

namespace Sys2Proof.Machine

variable {s : State}

/-! ## The operations as outcomes -/

/-- TICK in a legal state completes (R80). -/
theorem exec_tick_of_legal (h : s.illegal = none) : exec .tick s = .next s.tickEffect := by
  simp [exec, execTick, h]

/-- EDGE in a legal state runs the handler (R82, R146). -/
theorem exec_edge_of_legal (h : s.illegal = none) : exec .edge s = .next (s.runHandler .capture) := by
  simp [exec, execEdge, h]

/-- EDGE in a legal state with CAPEN = 1 is the capture. -/
theorem exec_edge_of_enabled (h : s.illegal = none) (he : s.capen = true) : exec .edge s = .next s.captureEffect := by
  rw [exec_edge_of_legal h, State.runHandler_capture_enabled s he]

/-- A frame has a sample exactly when COUNT is not 0. -/
theorem State.one_le_count_iff (s : State) : 1 ≤ s.count.toNat ↔ s.count ≠ 0#9 := by bv_omega

/-! ## TICK and TIMEOUT -/

/-- TICK closes a frame of at least one sample at the crossing of MAX_TICKS (R80, R84). -/
theorem State.tickEffect_capstat (s : State) :
    s.tickEffect.capstat =
      if s.capstat[0] = true ∧ s.tcnt = s.cfg.maxTicks ∧ 1 ≤ s.count.toNat then frameReady else s.capstat := by
  simp only [State.tickEffect_eq, s.one_le_count_iff]
  exact apply_ite State.capstat _ _ _

/-- Settles O9: TICK writes TCNT and, at the crossing of MAX_TICKS alone, CAPSTAT. -/
theorem tickCountsAndClosesTheFrame : Obligations.TickCountsAndClosesTheFrame := by
  intro s hl
  refine ⟨s.tickEffect, exec_tick_of_legal hl, ?_, ?_, ?_, ?_⟩
  · rw [State.tickEffect_tcnt]
    exact s.tickEffect_writes
  · rw [State.tickEffect_tcnt, BitVec.toNat_add]
    rfl
  · intro h
    rw [State.tickEffect_capstat, if_pos h]
  · intro h
    rw [State.tickEffect_capstat, if_neg h]

/-- Settles O10: FRAME_READY is CAPEN = 0 and FRDY = 1 together. -/
theorem timeoutFreezesANonemptyFrame : Obligations.TimeoutFreezesANonemptyFrame := by
  intro s
  have htimeout : exec .timeout s = .next s.timeoutEffect := rfl
  simp only [htimeout, State.timeoutEffect_eq, s.one_le_count_iff, ite_not]

/-! ## ARM -/

/-- Settles O14: with COUNT and CAPSTAT as ARM leaves them, ARM writes nothing new. -/
theorem armOpensAnEmptyBuffer : Obligations.ArmOpensAnEmptyBuffer := by
  intro s
  have harm : exec .arm s = .next { s with count := 0#9, capstat := armed } := congrArg _ s.armEffect_eq
  refine ⟨harm, fun hcapstat hcount => ?_⟩
  rw [harm, armed, ← hcapstat, ← hcount]

/-! ## EDGE -/

/-- An enabled EDGE whose interval is out of range, or that finds the buffer full, only resets TCNT (R82, R141, R145). -/
theorem State.captureEffect_of_dropped
    (h : s.tcnt < s.cfg.minTicks ∨ s.cfg.maxTicks < s.tcnt ∨ s.count.toNat = cap) :
    s.captureEffect = s.setTcnt 0#16 := by
  have hno : ¬ (validInterval s.cfg s.tcnt = true ∧ s.count.toNat < cap) := by
    rw [validInterval_iff]
    rintro ⟨⟨hmin, hmax⟩, hroom⟩
    obtain h | h | h := h
    · exact BitVec.not_lt.mpr hmin h
    · exact BitVec.not_lt.mpr hmax h
    · exact hroom.ne h
  rw [State.captureEffect_eq, if_neg hno]

/-- An enabled EDGE of an interval in range with room in the buffer records it (R82). -/
theorem State.captureEffect_of_inRange (hmin : s.cfg.minTicks ≤ s.tcnt) (hmax : s.tcnt ≤ s.cfg.maxTicks)
    (hroom : s.count.toNat < cap) : s.captureEffect = s.record := by
  rw [State.captureEffect_eq, if_pos ⟨(validInterval_iff _ _).mpr ⟨hmin, hmax⟩, hroom⟩]

/-- Recording advances COUNT, which has a bit to spare for CAP itself (R25, R82). -/
theorem State.record_count (h : s.count.toNat < cap) : s.record.count.toNat = s.count.toNat + 1 := by
  rw [cap_eq] at h
  show (s.count + 1#9).toNat = _
  bv_omega

/-- Recording puts the interval at index COUNT (R82). -/
theorem State.memRead_record_count (h : s.count.toNat < cap) : s.record.memRead s.count.toNat = some s.tcnt :=
  s.memRead_memWrite_same s.tcnt h

/-- Recording leaves every sample but the one at COUNT (R82). -/
theorem State.memRead_record_ne {j : Nat} (h : j ≠ s.count.toNat) : s.record.memRead j = s.memRead j :=
  s.memRead_memWrite_ne s.tcnt h.symm

/-- Settles O11: a masked EDGE is lost, and an enabled one records its interval or drops it. -/
theorem edgeMeasuresAndAppends : Obligations.EdgeMeasuresAndAppends := by
  intro s hl
  refine ⟨fun hmasked => ?_, fun henabled hdrop => ?_, fun henabled hmin hmax hroom => ?_⟩
  · rw [exec_edge_of_legal hl, State.runHandler_masked _ hmasked]
  · rw [exec_edge_of_enabled hl henabled, State.captureEffect_of_dropped hdrop]
    rfl
  · refine ⟨s.record, ?_, rfl, State.record_count hroom, State.memRead_record_count hroom,
      fun j => State.memRead_record_ne⟩
    rw [exec_edge_of_enabled hl henabled, State.captureEffect_of_inRange hmin hmax hroom]

/-! ## The frame of the handler (R89) -/

/-- A capture leaves every sample but the one at COUNT. -/
theorem State.memRead_captureEffect_ne {j : Nat} (h : j ≠ s.count.toNat) : s.captureEffect.memRead j = s.memRead j := by
  rw [State.captureEffect_eq]
  split
  · exact State.memRead_record_ne h
  · rfl

/-- An EDGE, masked or not, leaves every sample but the one at COUNT. -/
theorem State.memRead_edge_ne {j : Nat} (h : j ≠ s.count.toNat) :
    (s.runHandler .capture).memRead j = s.memRead j := by
  cases hen : s.capen with
  | false => rw [State.runHandler_masked _ hen]
  | true => rw [State.runHandler_capture_enabled s hen, State.memRead_captureEffect_ne h]

/-- Settles O46: EDGE is the handler, and TIMEOUT and TICK write no sample at all. -/
theorem handlerWritesOnlyTheCaptureState : Obligations.HandlerWritesOnlyTheCaptureState := by
  intro i s t hi h
  obtain rfl | rfl | rfl := hi
  case inl =>
    have hl := legal_of_exec_next (by simp) h
    obtain rfl : s.runHandler .capture = t := by simpa [exec_edge_of_legal hl] using h
    exact ⟨s.runHandler_writes .capture, fun j => State.memRead_edge_ne⟩
  case inr.inl =>
    obtain rfl : s.timeoutEffect = t := by simpa [exec, execTimeout] using h
    rw [s.timeoutEffect_writes]
    exact ⟨rfl, fun _ _ => rfl⟩
  case inr.inr =>
    have hl := legal_of_exec_next (by simp) h
    obtain rfl : s.tickEffect = t := by simpa [exec_tick_of_legal hl] using h
    rw [s.tickEffect_writes]
    exact ⟨rfl, fun _ _ => rfl⟩

/-! ## The closure of a frame (R88) -/

/-- A legal ARMED state with TCNT = 0 is one that a run of TICKs is measured from: of the two phases only RUN has CAPSTAT = ARMED. -/
theorem State.measuring_of_legal (hl : s.illegal = none) (ha : s.capstat = armed) (ht : s.tcnt = 0#16) : s.Measuring := by
  obtain ⟨-, hroom, hphase, -⟩ := s.illegal_eq_none_iff.mp hl
  have hrun : s.lph = .run := by
    cases hp : s.lph with
    | init => exact absurd (ha.symm.trans (hphase.mp hp)) (by decide)
    | run => rfl
  exact ⟨hrun, ha, ht, hroom⟩

/-- The capture leaves CAPSTAT: an EDGE closes no frame (R82). -/
@[simp] theorem State.captureEffect_capstat (s : State) : s.captureEffect.capstat = s.capstat := by
  rw [State.captureEffect_eq]
  split <;> rfl

/-- Settles O16: up to MAX_TICKS TICKs only count, one more is a GAP, and an EDGE while ARMED is the capture. -/
theorem frameClosesAfterTheWindow : Obligations.FrameClosesAfterTheWindow := by
  refine ⟨fun s hl _ ha hn ht => ⟨fun k rest hk hs => ?_, fun rest hs => ?_⟩, fun s hl ha => ?_⟩
  · have hwindow : s.tcnt.toNat + k ≤ s.cfg.maxTicks.toNat := by simpa [ht] using hk
    rw [State.run_advance k hl hwindow hs, ht, BitVec.zero_add]
  · have hgap := (State.measuring_of_legal hl ha ht).run_gap (s.one_le_count_iff.mp hn) hs
    rwa [gapWords, length_advanceWords] at hgap
  · refine ⟨s.captureEffect, exec_edge_of_enabled hl (State.capen_of_armed ha), s.captureEffect_tcnt, ?_⟩
    rw [State.captureEffect_capstat, ha]

end Sys2Proof.Machine
end

section
/-! DECODE (spec/41_decode.md R90 to R92): what its result is on a short frame and on a full one, and the one bit that each of the
first 32 samples gives. -/

namespace Sys2Proof.Machine

/-- DECODE completes from every state, and writes its result alone (R90). -/
theorem exec_decode_eq (s : State) : exec .decode s = .next { s with decoded := s.decodeFrame } := rfl

/-- A frame of fewer than 32 samples has no code (R92). -/
theorem State.decodeFrame_of_short {s : State} (h : s.count.toNat < nsamp) : s.decodeFrame = none := if_pos h

/-- A frame of at least 32 samples has one (R91). -/
theorem State.decodeFrame_of_full {s : State} (h : nsamp ≤ s.count.toNat) :
    s.decodeFrame = some (packBits s.codeBit nsamp) := if_neg (Nat.not_lt.mpr h)

/-- An index below CAP has a sample (R44). -/
theorem State.exists_memRead_eq_some (s : State) {k : Nat} (h : k < cap) : ∃ v, s.memRead k = some v :=
  Option.isSome_iff_exists.mp ((s.memRead_isSome_iff k).mpr h)

/-- A sample gives the bit 1 exactly when it exceeds IR_REF (R62, R90). -/
theorem State.codeBit_iff_of_memRead {s : State} {k : Nat} {v : Ticks} (h : s.memRead k = some v) :
    s.codeBit k = true ↔ irRef < v := by
  rw [State.codeBit, h]
  exact decide_eq_true_iff

/-- Settles O19: bit `k` of a full frame's code is the bit that sample `k` gives, and IR_REF is 3000. -/
theorem decodeComparesTheFirst32Samples : Obligations.DecodeComparesTheFirst32Samples := by
  intro s
  refine ⟨s.decodeFrame, exec_decode_eq s, State.decodeFrame_of_short, fun hfull => ?_⟩
  refine ⟨packBits s.codeBit nsamp, State.decodeFrame_of_full hfull, fun k hk => ?_⟩
  obtain ⟨v, hv⟩ := s.exists_memRead_eq_some (hk.trans (by decide : nsamp < cap))
  refine ⟨v, hv, ?_⟩
  rw [getLsbD_packBits _ _ _ hk, State.codeBit_iff_of_memRead hv]
  rfl

/-- Settles O20: both frames are full, and equal samples give equal bits. -/
theorem decodeDependsOnTheFirst32SamplesOnly : Obligations.DecodeDependsOnTheFirst32SamplesOnly := by
  intro s t hs ht hsamples
  have hcode : packBits t.codeBit nsamp = packBits s.codeBit nsamp :=
    packBits_congr fun k hk => State.codeBit_congr (hsamples k hk).symm
  refine ⟨packBits s.codeBit nsamp, ?_, ?_⟩
  · rw [exec_decode_eq, State.decodeFrame_of_full hs]
  · rw [exec_decode_eq, State.decodeFrame_of_full ht, hcode]

end Sys2Proof.Machine
end

section
/-! The gain dispatcher (spec/42_dispatch.md R100 to R115): the number LOOKUP gives is an index of the Command Table, DISPATCH of a
recognized code is one action and one ACTUATE, and what each action does. -/

namespace Sys2Proof

/-! ## LOOKUP -/

/-- Rows numbered upwards from `n` to NONE's 7: the first match has the number of the place of the code, past the end too. -/
theorem firstMatch_number (code : Code) (rows : List (Code × Cmd)) (n : Nat)
    (hnum : rows.map (·.2.number.toNat) = List.range' n rows.length) (hlen : n + rows.length = 7) :
    (firstMatch code rows).number.toNat = n + (rows.map (·.1)).idxOf code := by
  induction rows generalizing n with
  | nil => exact hlen.symm
  | cons row rest ih =>
    obtain ⟨word, cmd⟩ := row
    obtain ⟨hcmd, hrest⟩ := List.cons.inj hnum
    by_cases hw : word = code
    · simpa [firstMatch, hw] using hcmd
    · have hplace := ih (n + 1) hrest (by rw [List.length_cons] at hlen; omega)
      rw [firstMatch, if_neg hw, hplace, List.map_cons, List.idxOf_cons_ne _ hw]
      omega

/-- LOOKUP numbers a code by its first place in TABLE, and by 7 where it has none (R101). -/
theorem Config.lookup_number (c : Config) (code : Code) : (c.lookup code).number.toNat = c.table.idxOf code :=
  (firstMatch_number code c.rows.toList 0 rfl rfl).trans (Nat.zero_add _)

/-- Only NONE has the number 7 (R64). -/
theorem Cmd.eq_noneCmd_iff_number (cmd : Cmd) : cmd = .noneCmd ↔ cmd.number.toNat = 7 := by
  cases cmd <;> decide

/-- A code is unrecognized exactly when no entry of TABLE equals it (R101, R110). -/
theorem Config.lookup_eq_noneCmd_iff (c : Config) (code : Code) : c.lookup code = .noneCmd ↔ code ∉ c.table := by
  rw [Cmd.eq_noneCmd_iff_number, c.lookup_number]
  exact List.idxOf_eq_length_iff

/-- To be equal to no entry, index by index, is to be no member of TABLE. -/
theorem Config.not_mem_table {c : Config} {code : Code} (h : ∀ j, c.tableEntry j ≠ some code) : code ∉ c.table := by
  intro hmem
  obtain ⟨j, hj⟩ := List.mem_iff_getElem?.mp hmem
  exact h j hj

/-- Settles O21: the number is the first place of the code in TABLE. -/
theorem lookupIsFirstMatch : Obligations.LookupIsFirstMatch := by
  refine fun c code => ⟨fun j hj hfirst => ?_, fun hnone => ?_⟩
  · obtain ⟨hlt, hcode⟩ := List.getElem?_eq_some_iff.mp hj
    rw [c.lookup_number]
    refine (List.findIdx_eq hlt).mpr ⟨beq_iff_eq.mpr hcode, fun i hi => beq_eq_false_iff_ne.mpr fun heq => ?_⟩
    exact hfirst i hi (List.getElem?_eq_some_iff.mpr ⟨hi.trans hlt, heq⟩)
  · have hlookup := (c.lookup_eq_noneCmd_iff code).mpr (Config.not_mem_table hnone)
    exact ⟨hlookup, by rw [hlookup]; rfl⟩

/-- Settles O22: in a table without duplicates an entry's first place is its own. -/
theorem disjointTableReachesEveryCommand : Obligations.DisjointTableReachesEveryCommand := by
  intro c hdisjoint j hj
  have hlt : j < c.table.length := hj
  exact ⟨c.table[j], List.getElem?_eq_getElem hlt, (c.lookup_number _).trans (hdisjoint.idxOf_getElem j hlt)⟩

/-- The entry of VOL_UP selects it under every configuration: it is the first (R6, R29). -/
theorem Config.lookup_codeVolUp (c : Config) : c.lookup codeVolUp = .volUp := by
  simp [Config.lookup, Config.rows, firstMatch]

end Sys2Proof

namespace Sys2Proof.Machine

/-! ## DISPATCH -/

theorem State.dispatchEffect_of_decoded {s : State} {code : Code} (hd : s.decoded = some code) :
    s.dispatchEffect = s.dispatchCode code := by
  rw [State.dispatchEffect, hd]

/-- DISPATCH of a code that selects a command is the action of the command and then ACTUATE (R102, R111). -/
theorem exec_dispatch_of_selected {s : State} {code : Code} {cmd : Cmd} (hd : s.decoded = some code)
    (hl : s.cfg.lookup code = cmd) (hn : cmd ≠ .noneCmd) :
    exec .dispatch s = exec .actuate (s.commandAction code cmd) := by
  subst hl
  exact congrArg Host.Outcome.next ((State.dispatchEffect_of_decoded hd).trans (s.dispatchCode_recognized hn))

/-- DISPATCH of a code that selects NONE reports it, and no more (R110). -/
theorem exec_dispatch_of_unrecognized {s : State} {code : Code} (hd : s.decoded = some code)
    (hl : s.cfg.lookup code = .noneCmd) :
    exec .dispatch s = .next { s with diag := s.diag ++ [.unrecognized code] } :=
  congrArg Host.Outcome.next ((State.dispatchEffect_of_decoded hd).trans (s.dispatchCode_unrecognized hl))

/-- Settles O30: the action of a command emits nothing on ACT, and ACTUATE keeps the profile whose word it sends. -/
theorem everyRecognizedCodeRefreshesTheActuator : Obligations.EveryRecognizedCodeRefreshesTheActuator := by
  intro s code hd
  by_cases hn : s.cfg.lookup code = .noneCmd
  · exact ⟨_, exec_dispatch_of_unrecognized hd hn, fun h => absurd hn h, fun _ => rfl⟩
  · refine ⟨_, exec_dispatch_of_selected hd rfl hn, fun _ => ?_, fun h => absurd h hn⟩
    have hact : (s.commandAction code (s.cfg.lookup code)).act = s.act := by rw [State.commandAction_writes]
    rw [State.actuate_eq, hact]
    rfl

/-- Settles O31: the frame of DISPATCH, and that it is not performed without a code. -/
theorem dispatchWritesOnlyTheGainProfile : Obligations.DispatchWritesOnlyTheGainProfile := fun s =>
  ⟨s.dispatchEffect, rfl, s.dispatchEffect_writes, fun hd => by rw [State.dispatchEffect, hd]⟩

/-! ## The volume buttons -/

/-- `min(VOLUME + 1, 255)` fits the register (R103). -/
theorem toNat_volumeUp (v : Volume) : (volumeUp v).toNat = min (v.toNat + 1) 255 :=
  Nat.mod_eq_of_lt (Nat.lt_succ_of_le (Nat.min_le_right _ _))

/-- `max(VOLUME - 1, 0)` is the difference of naturals (R104). -/
theorem toNat_volumeDown (v : Volume) : (volumeDown v).toNat = v.toNat - 1 := by
  have hv := v.isLt
  rw [volumeDown, vmin, Nat.max_zero]
  exact Nat.mod_eq_of_lt (by omega)

/-- Muted, either volume button only unmutes (R103, R104). -/
theorem State.volumeButton_of_muted {s : State} (code : Code) {cmd : Cmd} (hb : cmd = .volUp ∨ cmd = .volDown)
    (hm : s.mute = true) : s.commandAction code cmd = s.setMute false := by
  obtain rfl | rfl := hb <;> exact if_pos hm

theorem State.volUpAction_of_unmuted {s : State} (hm : s.mute = false) :
    s.volUpAction = s.setVolume (volumeUp s.volume) := if_neg (by simp [hm])

theorem State.volDownAction_of_unmuted {s : State} (hm : s.mute = false) :
    s.volDownAction = s.setVolume (volumeDown s.volume) := if_neg (by simp [hm])

/-- Settles O24: the two cases of the action; the code stands first in TABLE. -/
theorem volUpUnmutesOrRaises : Obligations.VolUpUnmutesOrRaises := by
  intro s
  have hl : s.cfg.lookup 0xF50A59A6#32 = .volUp := s.cfg.lookup_codeVolUp
  refine ⟨s.volUpAction, rfl, State.volumeButton_of_muted 0 (.inl rfl), fun hm => ?_, hl,
    fun hd => exec_dispatch_of_selected hd hl (by decide)⟩
  rw [State.volUpAction_of_unmuted hm]
  exact ⟨rfl, toNat_volumeUp s.volume⟩

/-- Settles O25: the two cases of the action. -/
theorem volDownUnmutesOrLowers : Obligations.VolDownUnmutesOrLowers := by
  intro s
  refine ⟨s.volDownAction, rfl, State.volumeButton_of_muted 0 (.inr rfl), fun hm => ?_,
    fun code hd hl => exec_dispatch_of_selected hd hl (by decide)⟩
  rw [State.volDownAction_of_unmuted hm]
  refine ⟨rfl, ?_⟩
  rw [State.setVolume_volume, toNat_volumeDown]
  omega

/-! ## Two presses -/

@[simp] theorem State.actuate_volume (s : State) : s.actuate.volume = s.volume := rfl

/-- The word that ACTUATE sends of an unmuted profile is VOLUME times 0x0101 (R63, R112). -/
theorem State.actuate_act_of_unmuted {s : State} (hm : s.mute = false) :
    s.actuate.act = s.act ++ [BitVec.ofNat 16 (s.volume.toNat * 0x0101)] := by
  have hword : s.actWord = s.volume ++ s.volume := if_neg (by simp [hm])
  rw [State.actuate_eq, hword, ← toNat_append_self, BitVec.ofNat_toNat, BitVec.setWidth_eq]

/-- A press of a volume button while muted. -/
theorem exec_dispatch_volumeButton_of_muted {s : State} {code : Code} (hd : s.decoded = some code)
    (hb : s.cfg.lookup code = .volUp ∨ s.cfg.lookup code = .volDown) (hm : s.mute = true) :
    exec .dispatch s = .next (s.setMute false).actuate := by
  have hn : s.cfg.lookup code ≠ .noneCmd := by obtain h | h := hb <;> simp [h]
  rw [exec_dispatch_of_selected hd rfl hn, State.volumeButton_of_muted code hb hm]
  rfl

/-- A press of a volume button while unmuted. -/
theorem exec_dispatch_volumeButton_of_unmuted {s : State} {code : Code} (hd : s.decoded = some code)
    (hb : s.cfg.lookup code = .volUp ∨ s.cfg.lookup code = .volDown) (hm : s.mute = false) :
    ∃ v, exec .dispatch s = .next (s.setVolume v).actuate ∧
      (s.cfg.lookup code = .volUp → v = volumeUp s.volume) ∧ (s.cfg.lookup code = .volDown → v = volumeDown s.volume) := by
  obtain hl | hl := hb
  · refine ⟨volumeUp s.volume, ?_, fun _ => rfl, fun h => by simp [hl] at h⟩
    rw [exec_dispatch_of_selected hd hl (by decide), ← State.volUpAction_of_unmuted hm]
    rfl
  · refine ⟨volumeDown s.volume, ?_, fun h => by simp [hl] at h, fun _ => rfl⟩
    rw [exec_dispatch_of_selected hd hl (by decide), ← State.volDownAction_of_unmuted hm]
    rfl

/-- Settles O32: a press while muted leaves an unmuted state with the same code decoded, in which the second press moves VOLUME. -/
theorem firstPressAfterMuteOnlyUnmutes : Obligations.FirstPressAfterMuteOnlyUnmutes := by
  intro s code hm hd hb
  obtain ⟨v, hsecond, hup, hdown⟩ :=
    exec_dispatch_volumeButton_of_unmuted (s := (s.setMute false).actuate) hd hb rfl
  refine ⟨_, _, exec_dispatch_volumeButton_of_muted hd hb hm, rfl, rfl, hsecond, rfl, ?_, fun hl hv => ?_, fun hl hv => ?_⟩
  · rw [State.actuate_act_of_unmuted rfl, State.setVolume_act, State.actuate_act_of_unmuted rfl, List.append_assoc]
    rfl
  · simp only [State.actuate_volume, State.setVolume_volume, State.setMute_volume, hup hl, toNat_volumeUp]
    omega
  · simp only [State.actuate_volume, State.setVolume_volume, State.setMute_volume, hdown hl, toNat_volumeDown]
    omega

/-! ## The other commands -/

/-- Settles O26: the action sets MUTE in one state, whatever it was. -/
theorem muteSetsTheFlagAndKeepsVolume : Obligations.MuteSetsTheFlagAndKeepsVolume := fun _ =>
  ⟨rfl, fun _ hd hl => exec_dispatch_of_selected hd hl (by decide)⟩

/-- Settles O27: both actions write MUTE and VOLUME without reading them. -/
theorem presetsForceVolumeAndUnmute : Obligations.PresetsForceVolumeAndUnmute := fun _ =>
  ⟨rfl, rfl, fun _ hd hl => exec_dispatch_of_selected hd hl (by decide),
    fun _ hd hl => exec_dispatch_of_selected hd hl (by decide)⟩

/-- Settles O28: both actions emit one event, and a power command is not NONE, so ACTUATE follows. -/
theorem powerCommandsOnlyReport : Obligations.PowerCommandsOnlyReport := fun _ =>
  ⟨rfl, rfl, fun _ hd hl => exec_dispatch_of_selected hd hl (by decide),
    fun _ hd hl => exec_dispatch_of_selected hd hl (by decide)⟩

/-- Settles O29: a code equal to no entry selects NONE, which has no ACTUATE. -/
theorem unrecognizedCodeOnlyReports : Obligations.UnrecognizedCodeOnlyReports := fun s code =>
  ⟨rfl, fun hd hnone =>
    exec_dispatch_of_unrecognized hd ((s.cfg.lookup_eq_noneCmd_iff code).mpr (Config.not_mem_table hnone))⟩

end Sys2Proof.Machine
end

section
/-! The control loop (spec/43_control_loop.md R120 to R128): the one action that LOOP selects, its three actions, the progress of a
run, and the parts of SERVICE_FRAME beside the events that come while CAPEN = 0. -/

namespace Sys2Proof.Machine

variable {s : State}

/-! ## LOOP -/

/-- LOOP in a legal state is the action that LPH and CAPSTAT select (R121). -/
theorem exec_loop_of_legal (h : s.illegal = none) :
    exec .loop s =
      if s.lph = .init then exec .loopInit s
      else if s.capstat = frameReady then exec .serviceFrame s else exec .poll s := by
  simp only [exec, execLoop, h]

/-- SERVICE_FRAME of a COUNT in range completes (R124). -/
theorem exec_serviceFrame_of_room (h : s.count.toNat ≤ cap) : exec .serviceFrame s = .next s.serviceFrameEffect :=
  if_neg (Nat.not_lt.mpr h)

/-- LOOP in a legal state completes: a legal COUNT is in range for SERVICE_FRAME. -/
theorem exec_loop_completes (h : s.illegal = none) : ∃ t, exec .loop s = .next t := by
  obtain ⟨-, hroom, -, -⟩ := s.illegal_eq_none_iff.mp h
  rw [exec_loop_of_legal h]
  split_ifs
  · exact ⟨s.loopInitEffect, rfl⟩
  · exact ⟨s.serviceFrameEffect, exec_serviceFrame_of_room hroom⟩
  · exact ⟨s, rfl⟩

/-- Settles O34: LOOP is the action selected, and each of the three completes. -/
theorem loopSelectsOneAction : Obligations.LoopSelectsOneAction := by
  intro s h
  have hloop := exec_loop_of_legal h
  refine ⟨fun hl => ?_, fun hl hc => ?_, fun hl hc => ?_, exec_loop_completes h⟩
  · rw [hloop, if_pos hl]
  · rw [hloop, if_neg (by simp [hl]), if_pos hc]
  · rw [hloop, if_neg (by simp [hl]), if_neg hc]

/-- Settles O35: each of the three conditions contradicts one that a legal state meets. -/
theorem loopRefusesUnreachableStates : Obligations.LoopRefusesUnreachableStates := by
  intro s h
  have hillegal : s.illegal ≠ none := by
    rw [Ne, State.illegal_eq_none_iff]
    rintro ⟨hreserved, hroom, hphase, -⟩
    obtain hc | hc | ⟨hl, hc⟩ := h
    · exact hreserved hc
    · exact Nat.not_lt.mpr hroom hc
    · exact absurd (hl.symm.trans (hphase.mpr hc)) (by decide)
  obtain ⟨why, hwhy⟩ := Option.ne_none_iff_exists'.mp hillegal
  exact ⟨why, (illegalStatesAreRefused s).2 why hwhy .loop (by simp)⟩

/-- Settles O37: POLL answers the state it is given. -/
theorem pollChangesNothing : Obligations.PollChangesNothing := fun _ => rfl

/-! ## LOOP_INIT -/

/-- In the phase INIT of a legal state capture is disabled (R36). -/
theorem State.capen_of_init (h : s.illegal = none) (hl : s.lph = .init) : s.capen = false := by
  obtain ⟨-, -, hphase, -⟩ := s.illegal_eq_none_iff.mp h
  exact State.capen_of_notArmed (hphase.mp hl)

/-- Of the six things a step can be, LOOP_INIT alone leaves the phase INIT (R122). -/
theorem step_leaves_init {t : State} (hl : s.lph = .init) (h : step s = .next t) (ht : t.lph = .run) :
    s.nextWord = 0x03#8 ∧ t = s.afterFetch.loopInitEffect := by
  obtain ⟨-, rfl⟩ | ⟨-, -, rfl⟩ | ⟨-, -, rfl⟩ | ⟨-, hw, -, rfl⟩ | ⟨-, -, hrun, -, -⟩ | ⟨-, -, hrun, -, -⟩ :=
    step_next_inv h
  · simp at ht
  · simp [hl] at ht
  · simp [hl] at ht
  · exact ⟨hw, rfl⟩
  · exact absurd (hl.symm.trans hrun) (by decide)
  · exact absurd (hl.symm.trans hrun) (by decide)

/-- Settles O36: ARM and the phase RUN are all that LOOP_INIT writes, and in the phase INIT an event is masked. -/
theorem loopInitArmsCapture : Obligations.LoopInitArmsCapture := by
  refine ⟨fun s => congrArg _ s.loopInitEffect_eq, fun s t hl h ht => ?_, fun s h hl => ?_⟩
  · obtain ⟨hw, rfl⟩ := step_leaves_init hl h ht
    exact ⟨by simp [hw], rfl⟩
  · have hmasked := State.capen_of_init h hl
    rw [exec_edge_of_legal h, exec_tick_of_legal h, State.runHandler_masked _ hmasked, State.tickEffect_masked s hmasked]
    exact ⟨rfl, rfl⟩

/-! ## SERVICE_FRAME -/

/-- Settles O38: the dump is `State.frame`, and DISPATCH runs in `State.reported`. -/
theorem serviceFrameConsumesTheFrame : Obligations.ServiceFrameConsumesTheFrame := by
  intro s _ _ _ hroom
  have hservice := exec_serviceFrame_of_room hroom
  refine ⟨s.frame, State.length_frame hroom, fun i => s.frame_getElem?, fun hshort => ?_, fun hfull => ?_⟩
  · rw [hservice, State.serviceFrameEffect_short s (State.decodeFrame_of_short hshort)]
  · have hcode := State.decodeFrame_of_full hfull
    refine ⟨packBits s.codeBit nsamp, (s.reported (packBits s.codeBit nsamp)).dispatchEffect, ?_, ?_, ?_⟩
    · rw [exec_decode_eq, hcode]
    · rw [State.reported, List.append_assoc]
      rfl
    · rw [hservice, State.serviceFrameEffect_valid s hcode]

/-- A legal state whose CAPSTAT is not NOT_ARMED is in the phase RUN (R36). -/
theorem State.lph_eq_run_of_legal (h : s.illegal = none) (hc : s.capstat ≠ notArmed) : s.lph = .run := by
  obtain ⟨-, -, hphase, -⟩ := s.illegal_eq_none_iff.mp h
  cases hp : s.lph with
  | init => exact absurd (hphase.mp hp) hc
  | run => rfl

/-- Settles O42: FRAME_READY is legal in the phase RUN alone, where LOOP is SERVICE_FRAME. -/
theorem serviceAlwaysRecovers : Obligations.ServiceAlwaysRecovers := by
  intro s rest h hc hs
  have hrun : s.lph = .run := State.lph_eq_run_of_legal h (by rw [hc]; decide)
  refine ⟨({ s with script := rest } : State).serviceFrameEffect, ?_, ?_⟩
  · rw [step_loop hs h, if_neg (by simp [hrun]), if_pos hc]
  · rw [State.serviceFrameEffect_writes]
    exact ⟨rfl, rfl, hrun, rfl, rfl, rfl⟩

/-! ## Progress -/

/-- With only words pending that can start a step, the next word can start one. -/
theorem State.standaloneWord_nextWord (h : ∀ w ∈ s.script, standaloneWord w) : standaloneWord s.nextWord := by
  cases hs : s.script with
  | nil => exact s.nextWord_standalone_of_empty hs
  | cons w rest =>
    have hw : s.nextWord = w := by rw [State.nextWord, hs]
    rw [hw]
    exact h w (by simp [hs])

/-- A standalone word in a legal state is never refused (R61, R128). -/
theorem step_completes (h : s.illegal = none) (hw : standaloneWord s.nextWord) : ∃ t, step s = .next t := by
  have hlegal : s.afterFetch.illegal = none := s.afterFetch_illegal.trans h
  rw [step_of_standalone hw]
  obtain e | e | e | e := (standaloneWord_iff _).mp hw <;> rw [e]
  · exact ⟨s.afterFetch.resetEffect, rfl⟩
  · exact ⟨_, exec_tick_of_legal hlegal⟩
  · exact ⟨_, exec_edge_of_legal hlegal⟩
  · exact exec_loop_completes hlegal

theorem State.afterFetch_script (s : State) : s.afterFetch.script = s.script.tail := by
  cases hs : s.script <;> simp [State.afterFetch, hs]

/-- A step takes one word and leaves the rest of the schedule to the environment. -/
theorem step_script_eq_tail {t : State} (h : step s = .next t) : t.script = s.script.tail := by
  rw [← s.afterFetch_script]
  obtain ⟨-, rfl⟩ | ⟨-, -, rfl⟩ | ⟨-, -, rfl⟩ | ⟨-, -, -, rfl⟩ | ⟨-, -, -, -, rfl⟩ | ⟨-, -, -, -, rfl⟩ :=
    step_next_inv h
  · rfl
  · rw [State.tickEffect_writes]
  · rw [State.runHandler_writes]
  · rfl
  · rw [State.serviceFrameEffect_writes]
  · rfl

/-- Settles O44, by induction on the number of steps: a step completes, keeps the invariant, and takes its word off the schedule. -/
theorem standaloneSchedulesNeverStop : Obligations.StandaloneSchedulesNeverStop := by
  intro n s hinv hwords
  induction n generalizing s with
  | zero => exact ⟨s, s.run_zero, hinv⟩
  | succ n ih =>
    obtain ⟨t, ht⟩ := step_completes hinv.legal (State.standaloneWord_nextWord hwords)
    have hrest : ∀ w ∈ t.script, standaloneWord w := fun w hw => by
      rw [step_script_eq_tail ht] at hw
      exact hwords w (List.mem_of_mem_tail hw)
    rw [State.run_succ_of_next n ht]
    exact ih t (stepKeepsTheInvariant s t hinv ht) hrest

/-! ## Events beside the parts of SERVICE_FRAME -/

/-- A masked TICK or EDGE moves TCNT by a fixed number of ticks, and that is all it does (R80, R146). -/
theorem exec_masked_event {e : Instr} (he : e = .tick ∨ e = .edge) :
    ∃ d : Ticks, ∀ s : State, s.illegal = none → s.capen = false → exec e s = .next (s.setTcnt (s.tcnt + d)) := by
  obtain rfl | rfl := he
  · refine ⟨1#16, fun s h hmasked => ?_⟩
    rw [exec_tick_of_legal h, State.tickEffect_masked s hmasked]
  · refine ⟨0#16, fun s h hmasked => ?_⟩
    rw [exec_edge_of_legal h, State.runHandler_masked _ hmasked, BitVec.add_zero]
    rfl

/-- An effect beside capture: it neither reads nor writes TCNT, and it leaves the state that decides whether an event is masked or
refused. -/
structure State.BesideCapture (f : State → State) : Prop where
  setTcnt (s : State) (t : Ticks) : f (s.setTcnt t) = (f s).setTcnt t
  tcnt (s : State) : (f s).tcnt = s.tcnt
  lph (s : State) : (f s).lph = s.lph
  capstat (s : State) : (f s).capstat = s.capstat
  count (s : State) : (f s).count = s.count

theorem State.setTcnt_commandAction (s : State) (t : Ticks) (code : Code) (cmd : Cmd) :
    (s.setTcnt t).commandAction code cmd = (s.commandAction code cmd).setTcnt t := by
  cases cmd with
  | volUp | volDown =>
    simp only [State.commandAction, State.volUpAction, State.volDownAction, apply_ite (State.setTcnt t)]
    rfl
  | mute | loud | quiet | powerOn | powerOff | noneCmd => rfl

theorem State.setTcnt_dispatchCode (s : State) (t : Ticks) (code : Code) :
    (s.setTcnt t).dispatchCode code = (s.dispatchCode code).setTcnt t := by
  by_cases hn : s.cfg.lookup code = .noneCmd
  · rw [State.dispatchCode_unrecognized s hn, State.dispatchCode_unrecognized (s.setTcnt t) hn]
    rfl
  · rw [State.dispatchCode_recognized s hn, State.dispatchCode_recognized (s.setTcnt t) hn, State.setTcnt_cfg,
      State.setTcnt_commandAction]
    rfl

theorem State.setTcnt_dispatchEffect (s : State) (t : Ticks) :
    (s.setTcnt t).dispatchEffect = s.dispatchEffect.setTcnt t := by
  unfold State.dispatchEffect
  rw [State.setTcnt_decoded]
  cases s.decoded with
  | none => rfl
  | some code => exact s.setTcnt_dispatchCode t code

theorem State.besideCapture_dispatchEffect : State.BesideCapture State.dispatchEffect where
  setTcnt := State.setTcnt_dispatchEffect
  tcnt s := by rw [s.dispatchEffect_writes]
  lph s := by rw [s.dispatchEffect_writes]
  capstat s := by rw [s.dispatchEffect_writes]
  count s := by rw [s.dispatchEffect_writes]

/-- DECODE, DISPATCH and ACTUATE complete from every state, with an effect beside capture (R90, R112, R114). -/
theorem exec_besideCapture {i : Instr} (hi : i = .decode ∨ i = .dispatch ∨ i = .actuate) :
    ∃ f, State.BesideCapture f ∧ ∀ s, exec i s = .next (f s) := by
  obtain rfl | rfl | rfl := hi
  · exact ⟨State.decodeEffect, by constructor <;> intros <;> rfl, fun _ => rfl⟩
  · exact ⟨State.dispatchEffect, State.besideCapture_dispatchEffect, fun _ => rfl⟩
  · exact ⟨State.actuate, by constructor <;> intros <;> rfl, fun _ => rfl⟩

/-- Settles O51: the event moves TCNT alone, before the part and after it by as many ticks, and the part is beside capture. -/
theorem eventsCommuteWithServiceParts : Obligations.EventsCommuteWithServiceParts := by
  intro e i s he hi h hmasked
  obtain ⟨d, hevent⟩ := exec_masked_event he
  obtain ⟨f, hf, hpart⟩ := exec_besideCapture hi
  have hlegal : (f s).illegal = none := (State.illegal_congr (hf.lph s) (hf.capstat s) (hf.count s)).trans h
  have hcapen : (f s).capen = false := (State.capen_congr (hf.capstat s)).trans hmasked
  refine ⟨_, _, _, hevent s h hmasked, hpart _, hpart s, ?_⟩
  rw [hevent (f s) hlegal hcapen, hf.setTcnt, hf.tcnt]

end Sys2Proof.Machine
end

section
/-! The error conditions (spec/60_exceptions.md R140 to R147): where each status is reported and what its operation then writes,
and the two orders of an EDGE and the timeout TICK. -/

namespace Sys2Proof.Machine

variable {s : State}

/-! ## NOISE and OVERFLOW -/

/-- An interval is out of range exactly when it lies below MIN_TICKS or above MAX_TICKS (R81). -/
theorem validInterval_eq_false_iff (c : Config) (t : Ticks) :
    validInterval c t = false ↔ t < c.minTicks ∨ c.maxTicks < t := by
  rw [Bool.eq_false_iff, Ne, validInterval_iff, not_and_or, BitVec.not_le, BitVec.not_le]

/-- Where NOISE is reported (R141). -/
theorem State.edgeStatus_eq_noise_iff (s : State) :
    s.edgeStatus = some .noise ↔ s.capen = true ∧ validInterval s.cfg s.tcnt = false := by
  unfold State.edgeStatus
  split_ifs with hen hvalid hroom <;> simp_all

/-- Where OVERFLOW is reported (R145). -/
theorem State.edgeStatus_eq_overflow_iff (s : State) :
    s.edgeStatus = some .overflow ↔ s.capen = true ∧ validInterval s.cfg s.tcnt = true ∧ cap ≤ s.count.toNat := by
  unfold State.edgeStatus
  split_ifs with hen hvalid hroom <;> simp_all

/-- Settles O12: an interval out of range is one of the two that an enabled EDGE drops. -/
theorem noiseEdgeOnlyResetsTheCounter : Obligations.NoiseEdgeOnlyResetsTheCounter := by
  refine ⟨rfl, fun s hl => ?_⟩
  have hnoise : s.edgeStatus = some .noise ↔
      s.capstat[0] = true ∧ (s.tcnt < s.cfg.minTicks ∨ s.cfg.maxTicks < s.tcnt) := by
    rw [State.edgeStatus_eq_noise_iff, validInterval_eq_false_iff]
    rfl
  obtain ⟨-, hdropped, -⟩ := edgeMeasuresAndAppends s hl
  refine ⟨hnoise, fun h => ?_⟩
  obtain ⟨henabled, hrange⟩ := hnoise.mp h
  exact hdropped henabled (hrange.imp_right .inl)

/-- Settles O13: a full buffer is the other, and TIMEOUT asks only whether a frame is empty. -/
theorem overflowEdgeDropsTheSample : Obligations.OverflowEdgeDropsTheSample := by
  refine ⟨rfl, fun s hl => ?_⟩
  obtain ⟨-, hroom, -, -⟩ := s.illegal_eq_none_iff.mp hl
  have hfull : cap ≤ s.count.toNat ↔ s.count.toNat = 256 := hroom.ge_iff_eq
  have hoverflow : s.edgeStatus = some .overflow ↔
      s.capstat[0] = true ∧ s.cfg.minTicks ≤ s.tcnt ∧ s.tcnt ≤ s.cfg.maxTicks ∧ s.count.toNat = 256 := by
    rw [State.edgeStatus_eq_overflow_iff, validInterval_iff, hfull, and_assoc]
    rfl
  obtain ⟨-, hdropped, -⟩ := edgeMeasuresAndAppends s hl
  refine ⟨hoverflow, fun h => ?_, fun henabled hcount hmax => ?_⟩
  · obtain ⟨henabled, -, -, hcount⟩ := hoverflow.mp h
    exact hdropped henabled (.inr (.inr hcount))
  · have hsome : s.count ≠ 0#9 := s.one_le_count_iff.mp (by omega)
    rw [exec_tick_of_legal hl, State.tickEffect_eq, if_pos ⟨henabled, hmax, hsome⟩]

/-! ## The race of an EDGE and the timeout -/

/-- An EDGE while ARMED of an interval in range with room in the buffer records it (R82). -/
theorem step_edge_inRange {rest : List Byte} (hs : s.script = 0x02#8 :: rest) (hl : s.illegal = none) (ha : s.capstat = armed)
    (hmin : s.cfg.minTicks ≤ s.tcnt) (hmax : s.tcnt ≤ s.cfg.maxTicks) (hroom : s.count.toNat < cap) :
    step s = .next ({ s with script := rest } : State).record := by
  rw [step_edge_armed hs hl ha]
  exact congrArg _ (State.captureEffect_of_inRange (s := { s with script := rest }) hmin hmax hroom)

/-- Recording keeps an ARMED state legal. -/
theorem State.record_legal (hl : s.illegal = none) (ha : s.capstat = armed) (hroom : s.count.toNat < cap) :
    s.record.illegal = none := by
  have hrun : s.lph = .run := State.lph_eq_run_of_legal hl (by rw [ha]; decide)
  refine State.legal_of_armed hrun ha ?_
  rw [State.record_count hroom]
  exact hroom

/-- Closing a frame of at least one sample keeps an ARMED state legal, whatever TCNT is. -/
theorem State.closed_legal (hl : s.illegal = none) (ha : s.capstat = armed) (hsome : s.count ≠ 0#9) (t : Ticks) :
    ({ s with tcnt := t, capstat := frameReady } : State).illegal = none := by
  have hrun : s.lph = .run := State.lph_eq_run_of_legal hl (by rw [ha]; decide)
  obtain ⟨-, hroom, -, -⟩ := s.illegal_eq_none_iff.mp hl
  have hreserved : frameReady ≠ capstatReserved := by decide
  have hphase : s.lph = .init ↔ frameReady = notArmed := by rw [hrun]; decide
  exact (State.illegal_eq_none_iff _).mpr ⟨hreserved, hroom, hphase, fun _ => hsome⟩

/-- Settles O18: the EDGE that comes first restarts the count, so its TICK is far from MAX_TICKS; the TICK that comes first clears
CAPEN, so its EDGE is masked. -/
theorem edgeAndTimeoutRace : Obligations.EdgeAndTimeoutRace := by
  intro s rest hl hw ha hn hroom ht
  have hsome : s.count ≠ 0#9 := s.one_le_count_iff.mp hn
  refine ⟨fun hs => ?edgeFirst, fun hs => ?tickFirst⟩
  case edgeFirst =>
    obtain ⟨-, hmin, hmax, -⟩ := hw
    have hlow : s.cfg.minTicks ≤ s.tcnt := by bv_omega
    have hhigh : s.tcnt ≤ s.cfg.maxTicks := by bv_omega
    have hfar : 0#16 ≠ s.cfg.maxTicks := by bv_omega
    have hlegal : ({ s with script := 0x01#8 :: rest } : State).record.illegal = none := State.record_legal hl ha hroom
    have hedge := step_edge_inRange hs hl ha hlow hhigh hroom
    have htick := step_tick rfl hlegal
    rw [if_neg fun h => hfar h.2.1] at htick
    refine ⟨_, (State.run_succ_of_next 1 hedge).trans (State.run_one htick), ha, State.record_count hroom, rfl, ?_⟩
    rw [← ht]
    exact State.memRead_record_count hroom
  case tickFirst =>
    have hlegal : ({ s with script := 0x02#8 :: rest, tcnt := s.cfg.maxTicks + 1#16, capstat := frameReady } :
        State).illegal = none := State.closed_legal hl ha hsome (s.cfg.maxTicks + 1#16)
    have htick := step_tick hs hl
    rw [if_pos ⟨State.capen_of_armed ha, ht, hsome⟩, ht] at htick
    have hedge := step_edge rfl hlegal
    rw [State.runHandler_masked _ (State.capen_of_frameReady rfl)] at hedge
    exact (State.run_succ_of_next 1 htick).trans (State.run_one hedge)

/-! ## SHORT, UNRECOGNIZED and UNSUPPORTED -/

/-- No command reports SHORT: it is the outcome of a frame without a code (R142). -/
theorem cmdStatus_ne_short (cmd : Cmd) : cmdStatus cmd ≠ some .short := by
  cases cmd <;> decide

/-- NONE alone reports UNRECOGNIZED (R143). -/
theorem cmdStatus_eq_unrecognized_iff (cmd : Cmd) : cmdStatus cmd = some .unrecognized ↔ cmd = .noneCmd := by
  cases cmd <;> decide

/-- The power commands alone report UNSUPPORTED (R144). -/
theorem cmdStatus_eq_unsupported_iff (cmd : Cmd) :
    cmdStatus cmd = some .unsupported ↔ cmd = .powerOn ∨ cmd = .powerOff := by
  cases cmd <;> decide

/-- A frame with a code reports what its command reports (R143, R144). -/
theorem State.frameStatus_of_code {code : Code} (h : s.decodeFrame = some code) :
    s.frameStatus = cmdStatus (s.cfg.lookup code) := by
  rw [State.frameStatus, h]

/-- Where SHORT is reported (R142). -/
theorem State.frameStatus_eq_short_iff (s : State) : s.frameStatus = some .short ↔ s.count.toNat < nsamp := by
  by_cases hshort : s.count.toNat < nsamp
  · simp only [State.frameStatus, State.decodeFrame_of_short hshort, hshort]
  · rw [State.frameStatus_of_code (State.decodeFrame_of_full (Nat.not_lt.mp hshort))]
    exact iff_of_false (cmdStatus_ne_short _) hshort

/-- A frame that reports something other than SHORT has a code, whose command reports it. -/
theorem State.exists_code_of_frameStatus {e : Status} (he : e ≠ .short) (h : s.frameStatus = some e) :
    ∃ code, s.decodeFrame = some code ∧ cmdStatus (s.cfg.lookup code) = some e := by
  obtain hnone | ⟨code, hcode⟩ := Option.eq_none_or_eq_some s.decodeFrame
  · rw [State.frameStatus, hnone] at h
    exact absurd (Option.some.inj h).symm he
  · exact ⟨code, hcode, State.frameStatus_of_code hcode ▸ h⟩

theorem State.SameGain.refl (s : State) : s.SameGain s := ⟨rfl, rfl, rfl, rfl⟩

theorem State.SameGain.trans {t u : State} (h : s.SameGain t) (h' : t.SameGain u) : s.SameGain u :=
  ⟨h'.cfg.trans h.cfg, h'.volume.trans h.volume, h'.mute.trans h.mute, h'.act.trans h.act⟩

/-- A report leaves the Gain Profile and ACT. -/
theorem State.sameGain_emitDiag (s : State) (e : DiagEvent) : s.SameGain (s.emitDiag e) := ⟨rfl, rfl, rfl, rfl⟩

/-- DISPATCH of an unrecognized code leaves the Gain Profile and ACT (R143). -/
theorem State.sameGain_dispatchCode_unrecognized {code : Code} (h : s.cfg.lookup code = .noneCmd) :
    s.SameGain (s.dispatchCode code) := by
  rw [State.dispatchCode_unrecognized s h]
  exact s.sameGain_emitDiag _

/-- DISPATCH of a power command leaves the Gain Profile and ACT as ACTUATE alone does (R144). -/
theorem State.sameGain_dispatchCode_power {code : Code}
    (h : s.cfg.lookup code = .powerOn ∨ s.cfg.lookup code = .powerOff) : s.actuate.SameGain (s.dispatchCode code) := by
  have hn : s.cfg.lookup code ≠ .noneCmd := by obtain h | h := h <;> simp [h]
  have haction : s.SameGain (s.commandAction code (s.cfg.lookup code)) := by
    obtain h | h := h <;> rw [h] <;> exact s.sameGain_emitDiag _
  rw [State.dispatchCode_recognized s hn]
  exact haction.actuate

/-- The service of a SHORT or UNRECOGNIZED frame leaves the Gain Profile and ACT (R142, R143). -/
theorem State.sameGain_service_of_silent (h : s.frameStatus = some .short ∨ s.frameStatus = some .unrecognized) :
    s.SameGain s.serviceFrameEffect := by
  obtain h | h := h
  · rw [State.serviceFrameEffect_short s (State.decodeFrame_of_short (s.frameStatus_eq_short_iff.mp h))]
    exact ⟨rfl, rfl, rfl, rfl⟩
  · obtain ⟨code, hcode, hstatus⟩ := State.exists_code_of_frameStatus (by decide) h
    exact (State.sameGain_dispatchCode_unrecognized ((cmdStatus_eq_unrecognized_iff _).mp hstatus)).trans
      ((State.SameGain.refl s).serviceFrameEffect hcode)

/-- The service of an UNSUPPORTED frame leaves the Gain Profile and ACT as ACTUATE alone does (R144). -/
theorem State.sameGain_service_of_unsupported (h : s.frameStatus = some .unsupported) :
    s.actuate.SameGain s.serviceFrameEffect := by
  obtain ⟨code, hcode, hstatus⟩ := State.exists_code_of_frameStatus (by decide) h
  exact (State.sameGain_dispatchCode_power ((cmdStatus_eq_unsupported_iff _).mp hstatus)).trans
    ((State.SameGain.refl s).serviceFrameEffect hcode)

/-- Settles O39: each status fixes the branch of SERVICE_FRAME, and ACTUATE sends the word of the profile it keeps. -/
theorem frameStatusTellsTheOutcome : Obligations.FrameStatusTellsTheOutcome := by
  refine ⟨rfl, rfl, rfl, fun s hroom => ?_⟩
  refine ⟨s.serviceFrameEffect, exec_serviceFrame_of_room hroom, s.frameStatus_eq_short_iff, fun h => ?_, fun h => ?_⟩
  · obtain ⟨-, hvolume, hmute, hact⟩ := State.sameGain_service_of_silent h
    exact ⟨hvolume, hmute, hact⟩
  · obtain ⟨-, hvolume, hmute, hact⟩ := State.sameGain_service_of_unsupported h
    exact ⟨hvolume, hmute, hact⟩

end Sys2Proof.Machine
end

section
/-! Reset, the states with capture disabled, and fairness (spec/70_reset_and_hazards.md R170 to R183): the values of RESET, the events
that only count, EDGEs close enough to keep a frame open, and the run along a fair schedule. -/

namespace Sys2Proof.Machine

variable {s : State}

/-! ## RESET -/

/-- A listed draw is the next one taken. -/
theorem State.nextDraw_of_listed {d : BitVec 16} {rest : List (BitVec 16)} (h : s.draws = d :: rest) : s.nextDraw = d := by
  rw [State.nextDraw, h]

/-- Settles O7: RESET is `State.resetEffect`, which gives TCNT the next draw. -/
theorem resetGivesTheResetValues : Obligations.ResetGivesTheResetValues := by
  intro s
  refine ⟨s.resetEffect, rfl, rfl, rfl, rfl, rfl, rfl, rfl, rfl, rfl, rfl, rfl, fun d rest h => ⟨State.nextDraw_of_listed h, ?_⟩⟩
  exact congrArg List.tail h

/-! ## Events while capture is disabled -/

/-- In a legal state that is not ARMED, capture is disabled (R22). -/
theorem State.capen_of_not_armed (hl : s.illegal = none) (ha : s.capstat ≠ armed) : s.capen = false := by
  obtain ⟨hreserved, -⟩ := s.illegal_eq_none_iff.mp hl
  rwa [Bool.eq_false_iff, Ne, State.capen_iff_armed hreserved]

/-- A TICK that closes no frame only counts (R80). -/
theorem step_tick_of_no_timeout {rest : List Byte} (hs : s.script = 0x01#8 :: rest) (hl : s.illegal = none)
    (hn : ¬ (s.capen = true ∧ s.tcnt = s.cfg.maxTicks ∧ s.count ≠ 0#9)) :
    step s = .next { s with script := rest, tcnt := s.tcnt + 1#16 } := by
  rw [step_tick hs hl, if_neg hn]

/-- The TICK at MAX_TICKS of an enabled frame of at least one sample closes it (R80, R84). -/
theorem step_tick_of_timeout {rest : List Byte} (hs : s.script = 0x01#8 :: rest) (hl : s.illegal = none)
    (hc : s.capen = true) (ht : s.tcnt = s.cfg.maxTicks) (hn : s.count ≠ 0#9) :
    step s = .next { s with script := rest, tcnt := s.cfg.maxTicks + 1#16, capstat := frameReady } := by
  rw [step_tick hs hl, if_pos ⟨hc, ht, hn⟩, ht]

/-- While capture is disabled, an EDGE or a TICK only counts, and only if it is a TICK (R146, R175). -/
theorem step_event_of_disabled {w : Byte} {rest : List Byte} (hw : w = 0x01#8 ∨ w = 0x02#8) (hs : s.script = w :: rest)
    (hl : s.illegal = none) (hc : s.capen = false) :
    step s = .next { s with script := rest, tcnt := s.tcnt + BitVec.ofNat 16 ([w].count 0x01#8) } := by
  obtain rfl | rfl := hw
  · exact step_tick_of_no_timeout hs hl (by simp [hc])
  · have hmasked : ({ s with script := rest } : State).capen = false := hc
    rw [step_edge hs hl, State.runHandler_masked _ hmasked]
    simp

/-- Settles O15, by induction on the words: each of them only counts, and leaves capture disabled. -/
theorem disabledCaptureOnlyCounts : Obligations.DisabledCaptureOnlyCounts := by
  intro words s rest hl ha hwords hs
  induction words generalizing s with
  | nil =>
    obtain rfl : s.script = rest := hs
    simp
  | cons w ws ih =>
    rw [List.forall_mem_cons] at hwords
    obtain ⟨hw, hws⟩ := hwords
    have hstep := step_event_of_disabled hw hs hl (State.capen_of_not_armed hl ha)
    have hcount : (w :: ws).count 0x01#8 = [w].count 0x01#8 + ws.count 0x01#8 := List.count_append (l₁ := [w])
    rw [List.length_cons, State.run_succ_of_next _ hstep, hcount, BitVec.ofNat_add, ← BitVec.add_assoc]
    exact ih { s with script := ws ++ rest, tcnt := s.tcnt + BitVec.ofNat 16 ([w].count 0x01#8) } hl ha hws rfl

/-! ## Close EDGEs -/

/-- Whatever interval it measures, a capture leaves the phase, the configuration and the schedule (R89). -/
theorem State.captureEffect_writes (s : State) :
    s.captureEffect = { s with
      tcnt := s.captureEffect.tcnt, count := s.captureEffect.count, sample := s.captureEffect.sample } := by
  rw [State.captureEffect_eq]
  split <;> rfl

/-- A capture does not take COUNT past CAP (R82). -/
theorem State.captureEffect_count_le_cap (h : s.count.toNat ≤ cap) : s.captureEffect.count.toNat ≤ cap := by
  rw [State.captureEffect_eq]
  split_ifs with hrec
  · rw [State.record_count hrec.2]
    exact hrec.2
  · exact h

/-- A capture does not lower COUNT (R82). -/
theorem State.count_le_captureEffect_count (s : State) : s.count ≤ s.captureEffect.count := by
  rw [State.captureEffect_eq]
  split_ifs with hrec
  · rw [BitVec.le_def, State.record_count hrec.2]
    exact Nat.le_succ _
  · exact BitVec.le_refl _

/-- `u` is a state to measure the next EDGE from that an open frame of `s` has come to, with `rest` pending: the samples recorded
in `s` are still there (R179). -/
structure State.StaysOpen (s u : State) (rest : List Byte) : Prop where
  measuring : u.Measuring
  cfg : u.cfg = s.cfg
  count : s.count ≤ u.count
  samples : ∀ i, i < s.count.toNat → u.memRead i = s.memRead i
  script : u.script = rest

theorem State.StaysOpen.trans {u v : State} {rest rest' : List Byte} (h : s.StaysOpen u rest) (h' : u.StaysOpen v rest') :
    s.StaysOpen v rest' where
  measuring := h'.measuring
  cfg := h'.cfg.trans h.cfg
  count := BitVec.le_trans h.count h'.count
  samples i hi := (h'.samples i (Nat.lt_of_lt_of_le hi h.count)).trans (h.samples i hi)
  script := h'.script

/-- An EDGE of an ARMED state keeps the frame open (R82). -/
theorem State.staysOpen_captureEffect (hp : s.lph = .run) (ha : s.capstat = armed) (hroom : s.count.toNat ≤ cap) :
    s.StaysOpen s.captureEffect s.script where
  measuring := {
    phase := by rw [s.captureEffect_writes]; exact hp
    armed := s.captureEffect_capstat.trans ha
    fresh := s.captureEffect_tcnt
    room := State.captureEffect_count_le_cap hroom }
  cfg := by rw [s.captureEffect_writes]
  count := s.count_le_captureEffect_count
  samples _ hi := State.memRead_captureEffect_ne hi.ne
  script := by rw [s.captureEffect_writes]

/-- A PULSE within the window keeps the frame open, whether its interval is recorded, noise or dropped (R82, R179). -/
theorem State.Measuring.run_close_pulse {g : Nat} {rest : List Byte} (hm : s.Measuring) (hg : g ≤ s.cfg.maxTicks.toNat)
    (hs : s.script = pulseWords g ++ rest) :
    ∃ u : State, s.run (pulseWords g).length = .next u ∧ s.StaysOpen u rest := by
  have hs' : s.script = advanceWords g ++ 0x02#8 :: rest := by rw [hs, pulseWords, List.append_assoc]; rfl
  have hadvance := State.run_advance g hm.legal (by simpa [hm.fresh] using hg) hs'
  have hedge := State.run_one (step_edge_armed
    (s := { s with script := 0x02#8 :: rest, tcnt := s.tcnt + BitVec.ofNat 16 g }) rfl hm.legal hm.armed)
  have hopen := State.staysOpen_captureEffect
    (s := { s with script := rest, tcnt := s.tcnt + BitVec.ofNat 16 g }) hm.phase hm.armed hm.room
  refine ⟨_, ?_, hopen.measuring, hopen.cfg, hopen.count, hopen.samples, hopen.script⟩
  rw [pulseWords, List.length_append, length_advanceWords]
  exact (State.run_add 1 hadvance).trans hedge

/-- PULSEs within the window keep the frame open, however many they are (R179). -/
theorem State.Measuring.run_close_pulses {gaps : List Nat} {rest : List Byte} (hm : s.Measuring)
    (hgaps : ∀ g ∈ gaps, g ≤ s.cfg.maxTicks.toNat) (hs : s.script = pulsesWords gaps ++ rest) :
    ∃ u : State, s.run (pulsesWords gaps).length = .next u ∧ s.StaysOpen u rest := by
  induction gaps generalizing s with
  | nil => exact ⟨s, rfl, hm, rfl, BitVec.le_refl _, fun _ _ => rfl, hs⟩
  | cons g gs ih =>
    have hcons : pulsesWords (g :: gs) = pulseWords g ++ pulsesWords gs := rfl
    rw [hcons, List.append_assoc] at hs
    rw [List.forall_mem_cons] at hgaps
    obtain ⟨u, hu, hsu⟩ := hm.run_close_pulse hgaps.1 hs
    obtain ⟨v, hv, huv⟩ := ih hsu.measuring (by rw [hsu.cfg]; exact hgaps.2) hsu.script
    refine ⟨v, ?_, hsu.trans huv⟩
    rw [hcons, List.length_append]
    exact (State.run_add _ hu).trans hv

/-- Settles O17: a run of PULSEs within the window. -/
theorem closeEdgesKeepTheFrameOpen : Obligations.CloseEdgesKeepTheFrameOpen := by
  intro gaps s rest hl _ ha ht hgaps hs
  obtain ⟨u, hrun, hopen⟩ := (State.measuring_of_legal hl ha ht).run_close_pulses hgaps hs
  exact ⟨u, hrun, hopen.measuring.armed, hopen.measuring.fresh, hopen.count, hopen.samples, hopen.script⟩

/-! ## The run along a schedule -/

/-- The first `n` words of a schedule take `s` to `t`, whatever words come after them. -/
def State.Follows (σ : Schedule) (n : Nat) (s t : State) : Prop :=
  ∀ rest, ({ s with script := (List.range n).map σ ++ rest } : State).run n = .next { t with script := rest }

namespace State.Follows

variable {σ : Schedule} {n : Nat} {t u : State}

theorem zero (σ : Schedule) (s : State) : s.Follows σ 0 s := fun _ => rfl

/-- One more word, which steps the state that the words before it lead to. -/
theorem run_succ {w : Byte} (h : s.Follows σ n t) (hw : σ n = w) {rest : List Byte}
    (hstep : step { t with script := w :: rest } = .next u) :
    ({ s with script := (List.range (n + 1)).map σ ++ rest } : State).run (n + 1) = .next u := by
  rw [List.range_succ, List.map_append, List.append_assoc]
  exact (State.run_add 1 (h (σ n :: rest))).trans (State.run_one (hw ▸ hstep))

theorem succ {w : Byte} (h : s.Follows σ n t) (hw : σ n = w)
    (hstep : ∀ rest, step { t with script := w :: rest } = .next { u with script := rest }) : s.Follows σ (n + 1) u :=
  fun rest => h.run_succ hw (hstep rest)

/-- The first `n` words of the schedule, and no others, pending. -/
theorem run_follow (h : s.Follows σ n t) : (s.follow σ n).run n = .next { t with script := [] } := by
  simpa [State.follow] using h []

end State.Follows

/-- A LOOP of a legal ARMED state is a POLL, which changes nothing (R121, R123). -/
theorem step_loop_armed {rest : List Byte} (hs : s.script = 0x03#8 :: rest) (hl : s.illegal = none) (ha : s.capstat = armed) :
    step s = .next { s with script := rest } := by
  have hrun : s.lph = .run := State.lph_eq_run_of_legal hl (by rw [ha]; decide)
  rw [step_loop hs hl, if_neg (by simp [hrun]), if_neg (by rw [ha]; decide)]

/-! ## A fair schedule -/

/-- A fair schedule has a TICK with any given number of TICKs before it. -/
theorem Schedule.Fair.exists_tick {σ : Schedule} (h : σ.Fair) (k : Nat) :
    ∃ n, σ n = 0x01#8 ∧ Nat.count (σ · = 0x01#8) n = k := by
  have hinf : {n | σ n = 0x01#8}.Infinite := Nat.frequently_atTop_iff_infinite.mp (Filter.frequently_atTop.mpr h.1)
  exact ⟨_, Nat.nth_mem_of_infinite hinf k, Nat.count_nth_of_infinite hinf k⟩

/-- While an ARMED frame is open, a schedule of TICKs and LOOPs only counts its TICKs, up to MAX_TICKS (R80, R123). -/
theorem State.follows_open {σ : Schedule} (hσ : ∀ n, σ n = 0x01#8 ∨ σ n = 0x03#8) (hl : s.illegal = none)
    (ha : s.capstat = armed) (n : Nat) (hn : s.tcnt.toNat + Nat.count (σ · = 0x01#8) n ≤ s.cfg.maxTicks.toNat) :
    s.Follows σ n { s with tcnt := s.tcnt + BitVec.ofNat 16 (Nat.count (σ · = 0x01#8) n) } := by
  induction n with
  | zero => simpa using State.Follows.zero σ s
  | succ n ih =>
    obtain htick | hloop := hσ n
    · rw [Nat.count_succ, if_pos htick] at hn ⊢
      have hbefore : s.tcnt + BitVec.ofNat 16 (Nat.count (σ · = 0x01#8) n) ≠ s.cfg.maxTicks := by bv_omega
      rw [BitVec.ofNat_add, ← BitVec.add_assoc]
      exact (ih (by omega)).succ htick fun rest => step_tick_of_no_timeout rfl hl fun h => hbefore h.2.1
    · have hno : σ n ≠ 0x01#8 := by rw [hloop]; decide
      rw [Nat.count_succ, if_neg hno, Nat.add_zero] at hn ⊢
      exact (ih hn).succ hloop fun rest => step_loop_armed rfl hl ha

/-- The TICK that follows the last one of the window closes a frame of at least one sample (R84, R183). -/
theorem State.Inv.follows_to_closure {σ : Schedule} (h : s.Inv) (hfair : σ.Fair) (hσ : ∀ n, σ n = 0x01#8 ∨ σ n = 0x03#8)
    (ha : s.capstat = armed) (hn : s.count ≠ 0#9) :
    ∃ n, s.Follows σ n { s with tcnt := s.cfg.maxTicks + 1#16, capstat := frameReady } := by
  have hwindow : s.tcnt ≤ s.cfg.maxTicks := h.window ha hn
  obtain ⟨n, htick, hcount⟩ := hfair.exists_tick (s.cfg.maxTicks.toNat - s.tcnt.toNat)
  have hmax : s.tcnt + BitVec.ofNat 16 (s.cfg.maxTicks.toNat - s.tcnt.toNat) = s.cfg.maxTicks := by bv_omega
  have hopen := State.follows_open hσ h.legal ha n (by rw [hcount]; bv_omega)
  rw [hcount, hmax] at hopen
  exact ⟨n + 1, hopen.succ htick fun rest => step_tick_of_timeout rfl h.legal (State.capen_of_armed ha) rfl hn⟩

/-- A frame once closed waits for its LOOP: the TICKs before that only count (R171, R175). -/
theorem State.Follows.wait {σ : Schedule} {n m : Nat} {t : State} (h : s.Follows σ n t) (hl : t.illegal = none)
    (hc : t.capen = false) (hnm : n ≤ m) (hticks : ∀ j, n ≤ j → j < m → σ j = 0x01#8) :
    ∃ c : Ticks, s.Follows σ m { t with tcnt := c } := by
  induction m, hnm using Nat.le_induction with
  | base => exact ⟨t.tcnt, h⟩
  | succ m hm ih =>
    obtain ⟨c, hfollows⟩ := ih fun j hj hjm => hticks j hj (Nat.lt_succ_of_lt hjm)
    exact ⟨c + 1#16, hfollows.succ (hticks m hm (Nat.lt_succ_self m)) fun rest =>
      step_tick_of_no_timeout rfl hl fun h => absurd (hc.symm.trans h.1) (by decide)⟩

/-- A fair schedule has a first LOOP at or after any place, and without EDGE and RESET only TICKs before it. -/
theorem Schedule.Fair.exists_first_loop {σ : Schedule} (h : σ.Fair) (hσ : ∀ n, σ n = 0x01#8 ∨ σ n = 0x03#8) (n : Nat) :
    ∃ m, n ≤ m ∧ σ m = 0x03#8 ∧ ∀ j, n ≤ j → j < m → σ j = 0x01#8 := by
  obtain ⟨hle, hloop⟩ := Nat.find_spec (h.2 n)
  exact ⟨_, hle, hloop, fun j hj hjm => (hσ j).resolve_right fun hj' => Nat.find_min (h.2 n) hjm ⟨hj, hj'⟩⟩

/-- Settles O54: the TICKs left in the window are counted and one more closes the frame; the first LOOP after that services it. -/
theorem fairSchedulesServiceTheFrame : Obligations.FairSchedulesServiceTheFrame := by
  intro σ s hfair hσ hinv ha hcount
  have hsome : s.count ≠ 0#9 := s.one_le_count_iff.mp hcount
  obtain ⟨n, hclosed⟩ := hinv.follows_to_closure hfair hσ ha hsome
  have hlegal := State.closed_legal hinv.legal ha hsome (s.cfg.maxTicks + 1#16)
  obtain ⟨m, hnm, hloop, hticks⟩ := hfair.exists_first_loop hσ n
  obtain ⟨c, hwaits⟩ := hclosed.wait hlegal (State.capen_of_frameReady rfl) hnm hticks
  obtain ⟨u, hservice, harmed, hempty, -⟩ := serviceAlwaysRecovers
    { s with tcnt := c, capstat := frameReady, script := [0x03#8] } [] hlegal rfl rfl
  refine ⟨n, m + 1, _, u, Nat.lt_succ_of_le hnm, hclosed.run_follow, rfl, rfl, rfl, ?_, harmed, hempty⟩
  simpa [State.follow] using hwaits.run_succ hloop hservice

end Sys2Proof.Machine
end
